-- ==== Sys2Proof/Word.lean ====
section
/-! DEFINITION. The words of the block: bytes, the register widths, the request word and the step selector
(spec/00_scope.md R13, spec/30_encoding.md R80 and R85). Everything is unsigned. -/
namespace Sys2Proof

/-- A byte: 8 bits (spec/00_scope.md R13). -/
abbrev Byte := BitVec 8

/-- The width of the CRC accumulator (spec/10_state.md R21). -/
abbrev Word16 := BitVec 16

/-- The width of an operand of the request word and of a register read (spec/30_encoding.md R80, spec/10_state.md R37). -/
abbrev Word32 := BitVec 32

/-- The width of `SIZE[i]` (spec/10_state.md R26). -/
abbrev Word64 := BitVec 64

/-- One request at the operation port: `OP[71:64] ARG1[63:32] ARG0[31:0]` (spec/30_encoding.md R80). -/
abbrev RequestWord := BitVec 72

/-- The sequencer's step selector: `SEQ[5:2] AWAIT[1] LAST[0]` (spec/30_encoding.md R85). -/
abbrev Selector := BitVec 6

/-- A position of an image in the session, 0 to 2 (spec/00_scope.md R12). -/
abbrev Pos := Fin 3

end Sys2Proof
end

