-- ==== Sys2Proof/Syntax.lean ====
section
/-! DEFINITION. The instructions: one constructor per row of spec/opcode_table.json, 31 request operations
(spec/30_encoding.md R81) and 11 step-selector rows (R85), with the operands the table gives each row (R82). -/
namespace Sys2Proof

/-- One row of spec/opcode_table.json each. Operands have the widths of spec/30_encoding.md R82. -/
inductive Instr where
  -- CRC Engine
  | crcInit
  | crcLoad (init : Word16)
  | crcStep (b : Byte)
  | crcBuf (n : Word32)
  | crcFinal
  -- Frame Codec
  | frmEsc
  | frmEnc
  | frmRaw
  | frmUnesc
  | frmDec
  | txSend
  | frmClr
  | frmPut (b : Byte)
  -- Command Builder
  | cmdClr
  | cmdPut (b : Byte)
  | cmdLoad (t : Word32)
  | cmdPut32 (o v : Word32)
  | cmdInc2 (o : Word32)
  | cmdCrcpatch
  | cmdHello (g : Bool)
  | cmdOpen (p size : Word32)
  | cmdTrailer (p size : Word32)
  | cmdClose
  -- Response Validator
  | ackClr
  | ackPut (b : Byte)
  | ackRecv
  | ackCheck (k : Byte)
  -- Transfer Sequencer and host access
  | seqRun
  | regWr (r v : Word32)
  | regRd (r : Word32)
  | bufRd (space index : Word32)
  -- the sequencer's steps
  | sHelloTx
  | sHelloAck
  /-- `S.OPEN_TX`, the row of the first image (`SEQ = HelloSent`). -/
  | sOpenTxFirst
  /-- `S.OPEN_TX`, the row of the next image (`SEQ = ImageAcked`, `LAST = 0`). -/
  | sOpenTxNext
  /-- `S.OPEN_ACK`, the row of the first image (`SEQ = HelloSent`). -/
  | sOpenAckFirst
  /-- `S.OPEN_ACK`, the row of the next image (`SEQ = ImageAcked`). -/
  | sOpenAckNext
  | sTrailerTx
  | sChunk
  | sDataAck
  | sCloseTx
  | sFinish
deriving DecidableEq, Repr

/-- The two machine formats of spec/30_encoding.md: a request at the port (R80) or a step selector (R85). -/
inductive Code where
  | request (w : RequestWord)
  | selector (sel : Selector)
deriving DecidableEq, Repr

/-- Why a code is no instruction. -/
inductive DecodeError where
  /-- The operation code is unassigned (spec/30_encoding.md R83); the port answers `IllegalOp` or `Busy`. -/
  | unassignedOp (op : Byte)
  /-- The selector value has no step (spec/30_encoding.md R85). -/
  | noStep (sel : Selector)
deriving DecidableEq, Repr

/-- The pseudo-operations of spec/30_encoding.md R96. -/
inductive Pseudo where
  | crc16 (n : Word32)
  | sendFramed
  | sendUnframed
  | awaitAck (k : Byte)
  | cmdBytes (bs : List Byte)
  | frmBytes (bs : List Byte)
  | ackBytes (bs : List Byte)
  | helloManual (g : Bool)
deriving DecidableEq, Repr

/-- The numbered registers of spec/10_state.md R37. -/
inductive Reg where
  | status | seq | cause | operr | ackflags | lastack | expect | off | crc | res | cmdlen | frmlen | acklen
  | gen2 | nimg | size0lo | size0hi | size1lo | size1hi | size2lo | size2hi
deriving DecidableEq, Repr

/-- The internal spaces that `BUF.RD` reads (spec/44_transfer_sequencer.md R192). -/
inductive Space where
  | cmd | frm | ack
deriving DecidableEq, Repr

end Sys2Proof
end

