-- ==== Sys2Proof/Decode.lean ====
section
/-! DEFINITION. Decoding of request words (spec/30_encoding.md R80 to R83) and of step selectors (R85), total and
rejecting by name; the encoder; and the host's view of a table row (`decodeTableWord`). -/
namespace Sys2Proof

/-- `OP`, bits 71:64 of a request word (spec/30_encoding.md R80). -/
def requestOp (w : RequestWord) : Byte := w.extractLsb' 64 8

/-- `ARG1`, bits 63:32 (spec/30_encoding.md R80). -/
def requestArg1 (w : RequestWord) : Word32 := w.extractLsb' 32 32

/-- `ARG0`, bits 31:0 (spec/30_encoding.md R80). -/
def requestArg0 (w : RequestWord) : Word32 := w.extractLsb' 0 32

/-- The request word of three fields. -/
def requestWord (op : Byte) (arg1 arg0 : Word32) : RequestWord := op ++ arg1 ++ arg0

/-- The operation map of spec/30_encoding.md R81 with the operand assembly of R82: unused operand bits are ignored. -/
def decodeRequest (w : RequestWord) : Except DecodeError Instr :=
  let arg0 := requestArg0 w
  let arg1 := requestArg1 w
  match (requestOp w).toNat with
  | 0x00 => .ok .crcInit
  | 0x01 => .ok (.crcLoad (arg0.setWidth 16))
  | 0x02 => .ok (.crcStep (arg0.setWidth 8))
  | 0x03 => .ok (.crcBuf arg0)
  | 0x04 => .ok .crcFinal
  | 0x10 => .ok .frmEsc
  | 0x11 => .ok .frmEnc
  | 0x12 => .ok .frmRaw
  | 0x13 => .ok .frmUnesc
  | 0x14 => .ok .frmDec
  | 0x15 => .ok .txSend
  | 0x16 => .ok .frmClr
  | 0x17 => .ok (.frmPut (arg0.setWidth 8))
  | 0x20 => .ok .cmdClr
  | 0x21 => .ok (.cmdPut (arg0.setWidth 8))
  | 0x22 => .ok (.cmdLoad arg0)
  | 0x23 => .ok (.cmdPut32 arg0 arg1)
  | 0x24 => .ok (.cmdInc2 arg0)
  | 0x25 => .ok .cmdCrcpatch
  | 0x28 => .ok (.cmdHello (arg0.getLsbD 0))
  | 0x29 => .ok (.cmdOpen arg0 arg1)
  | 0x2A => .ok (.cmdTrailer arg0 arg1)
  | 0x2B => .ok .cmdClose
  | 0x30 => .ok .ackClr
  | 0x31 => .ok (.ackPut (arg0.setWidth 8))
  | 0x32 => .ok .ackRecv
  | 0x33 => .ok (.ackCheck (arg0.setWidth 8))
  | 0x40 => .ok .seqRun
  | 0x50 => .ok (.regWr arg0 arg1)
  | 0x51 => .ok (.regRd arg0)
  | 0x52 => .ok (.bufRd arg0 arg1)
  | _ => .error (.unassignedOp (requestOp w))

/-- The selector of three fields: `SEQ` code, `AWAIT`, `LAST` (spec/30_encoding.md R85). -/
def selectorWord (seqCode : BitVec 4) (await last : Bool) : Selector :=
  seqCode ++ BitVec.ofBool await ++ BitVec.ofBool last

/-- The step table of spec/30_encoding.md R85; `LAST` is looked at only where `SEQ = ImageAcked` and `AWAIT = 0`. -/
def decodeSelector (sel : Selector) : Except DecodeError Instr :=
  match (sel.extractLsb' 2 4).toNat, sel.getLsbD 1, sel.getLsbD 0 with
  | 0, false, _ => .ok .sHelloTx
  | 0, true, _ => .ok .sHelloAck
  | 1, false, _ => .ok .sOpenTxFirst
  | 1, true, _ => .ok .sOpenAckFirst
  | 2, false, _ => .ok .sTrailerTx
  | 3, false, _ => .ok .sChunk
  | 3, true, _ => .ok .sDataAck
  | 4, false, false => .ok .sOpenTxNext
  | 4, true, _ => .ok .sOpenAckNext
  | 4, false, true => .ok .sCloseTx
  | 5, false, _ => .ok .sFinish
  | _, _, _ => .error (.noStep sel)

/-- Decoding of either format; total. -/
def decode : Code → Except DecodeError Instr
  | .request w => decodeRequest w
  | .selector sel => decodeSelector sel

/-- The code of an instruction, operand bits it does not use zero, the selector bit it does not look at zero. -/
def encode : Instr → Code
  | .crcInit => .request (requestWord 0x00 0 0)
  | .crcLoad init => .request (requestWord 0x01 0 (init.setWidth 32))
  | .crcStep b => .request (requestWord 0x02 0 (b.setWidth 32))
  | .crcBuf n => .request (requestWord 0x03 0 n)
  | .crcFinal => .request (requestWord 0x04 0 0)
  | .frmEsc => .request (requestWord 0x10 0 0)
  | .frmEnc => .request (requestWord 0x11 0 0)
  | .frmRaw => .request (requestWord 0x12 0 0)
  | .frmUnesc => .request (requestWord 0x13 0 0)
  | .frmDec => .request (requestWord 0x14 0 0)
  | .txSend => .request (requestWord 0x15 0 0)
  | .frmClr => .request (requestWord 0x16 0 0)
  | .frmPut b => .request (requestWord 0x17 0 (b.setWidth 32))
  | .cmdClr => .request (requestWord 0x20 0 0)
  | .cmdPut b => .request (requestWord 0x21 0 (b.setWidth 32))
  | .cmdLoad t => .request (requestWord 0x22 0 t)
  | .cmdPut32 o v => .request (requestWord 0x23 v o)
  | .cmdInc2 o => .request (requestWord 0x24 0 o)
  | .cmdCrcpatch => .request (requestWord 0x25 0 0)
  | .cmdHello g => .request (requestWord 0x28 0 ((BitVec.ofBool g).setWidth 32))
  | .cmdOpen p size => .request (requestWord 0x29 size p)
  | .cmdTrailer p size => .request (requestWord 0x2A size p)
  | .cmdClose => .request (requestWord 0x2B 0 0)
  | .ackClr => .request (requestWord 0x30 0 0)
  | .ackPut b => .request (requestWord 0x31 0 (b.setWidth 32))
  | .ackRecv => .request (requestWord 0x32 0 0)
  | .ackCheck k => .request (requestWord 0x33 0 (k.setWidth 32))
  | .seqRun => .request (requestWord 0x40 0 0)
  | .regWr r v => .request (requestWord 0x50 v r)
  | .regRd r => .request (requestWord 0x51 0 r)
  | .bufRd space index => .request (requestWord 0x52 index space)
  | .sHelloTx => .selector (selectorWord 0 false false)
  | .sHelloAck => .selector (selectorWord 0 true false)
  | .sOpenTxFirst => .selector (selectorWord 1 false false)
  | .sOpenTxNext => .selector (selectorWord 4 false false)
  | .sOpenAckFirst => .selector (selectorWord 1 true false)
  | .sOpenAckNext => .selector (selectorWord 4 true false)
  | .sTrailerTx => .selector (selectorWord 2 false false)
  | .sChunk => .selector (selectorWord 3 false false)
  | .sDataAck => .selector (selectorWord 3 true false)
  | .sCloseTx => .selector (selectorWord 4 false true)
  | .sFinish => .selector (selectorWord 5 false false)

/-- The instruction of a table row whose bits are `w`: a row of at most 8 bits is a step selector (6 bits of the byte),
a row of at most 72 bits a request word; both are presented whole, so there is no byte order to choose. -/
def decodeTableWord (nbits w : Nat) : Option Instr :=
  if nbits ≤ 8 then
    if w < 64 then (decodeSelector (BitVec.ofNat 6 w)).toOption else none
  else if nbits ≤ 72 then
    if w < 2 ^ 72 then (decodeRequest (BitVec.ofNat 72 w)).toOption else none
  else none

end Sys2Proof
end

