-- ==== Sys2Proof/Machine/Constants.lean ====
section
/-! DEFINITION. The constants that the source fixes (spec/00_scope.md R10, spec/30_encoding.md R92). -/
namespace Sys2Proof.Machine

/-- `DELIM`, the frame delimiter. -/
def delim : Byte := 0x7E

/-- `ESC`, the escape byte. -/
def esc : Byte := 0x7D

/-- The second byte of `ESC_DELIM`. -/
def escDelim : Byte := 0x5E

/-- The second byte of `ESC_ESC`. -/
def escEsc : Byte := 0x5D

/-- `ACK_HELLO`. -/
def ackHello : Byte := 0x02

/-- `ACK_OPEN`. -/
def ackOpen : Byte := 0x26

/-- `ACK_DATA`. -/
def ackData : Byte := 0x28

/-- `CHUNK`, 256 KiB. -/
def chunk : Nat := 262144

/-- `CRC_INIT`. -/
def crcInitial : Word16 := 0xFFFF

/-- `CRC_POLY_REFLECTED`. -/
def crcPoly : Word16 := 0x8408

/-- `TRAILER_ADJ`. -/
def trailerAdj : Nat := 8

/-- `ACK_MIN_LEN`. -/
def ackMinLen : Nat := 4

/-- The length of the CRC slot (spec/30_encoding.md R86). -/
def slotLen : Nat := 2

end Sys2Proof.Machine
end

