-- ==== Sys2Proof/Config.lean ====
section
/-! DEFINITION. What the source leaves to the implementation: the parameters of spec/00_scope.md R11 as one type whose
values are exactly the legal parameter sets, and the model's free constants, which have no body. -/
namespace Sys2Proof

/-- A template that carries one 32-bit size field and ends in the 2-byte CRC slot (spec/00_scope.md R11,
`TRAILER_T[p]` and `TRAILER_SIZE_OFF[p]`). The shape makes R11's constraints true of every value: the length is at least
6 and the size field lies clear of the slot. `field` and `slot` are the bytes the ROM holds where a build patches. -/
structure SizedTemplate where
  /-- The bytes before the size field: their number is the size offset. -/
  head : List Byte
  /-- The four bytes of the ROM at the size field. -/
  field : Vector Byte 4
  /-- The payload bytes after the size field. -/
  tail : List Byte
  /-- The two bytes of the ROM at the CRC slot. -/
  slot : Vector Byte 2
deriving DecidableEq, Repr, Inhabited

/-- An `OPEN_T[p]` with its `OPEN_SIZE_OFF[p]`: as a sized template, and at least 7 bytes long (spec/00_scope.md R11), so
one payload byte stands before or after the size field. -/
inductive OpenTemplate where
  /-- The size offset is above 0: `first` is the template's first byte. -/
  | fieldInside (first : Byte) (rest : List Byte) (field : Vector Byte 4) (tail : List Byte) (slot : Vector Byte 2)
  /-- The size offset is 0: `next` is the payload byte after the size field. -/
  | fieldFirst (field : Vector Byte 4) (next : Byte) (tail : List Byte) (slot : Vector Byte 2)
deriving DecidableEq, Repr, Inhabited

/-- The parameters of spec/00_scope.md R11. Every value of this type is a legal parameter set and every legal set is a
value of it (log 1); `Machine/Rom.lean` reads them off under the names of R11. -/
structure Params where
  /-- `HELLO_T`, 37 bytes. -/
  hello : Vector Byte 37
  /-- `GEN_OFF`, with `GEN_OFF + 1 <= HELLO_LEN - 3`. -/
  gen : Fin 34
  /-- `OPEN_T[p]` and `OPEN_SIZE_OFF[p]`, p = 0, 1, 2. -/
  opens : Vector OpenTemplate 3
  /-- `TRAILER_T[p]` and `TRAILER_SIZE_OFF[p]`, p = 0, 1, 2. -/
  trailers : Vector SizedTemplate 3
  /-- `CLOSE_T`, 3 bytes. -/
  close : Vector Byte 3
  /-- `ACK_BUF_LEN - 4`. -/
  ackSlack : Nat
  /-- `ACK_FATAL`. -/
  ackFatal : Bool
  /-- `CMD_MAX` less the smallest capacity that the templates allow. -/
  cmdSlack : Nat
deriving DecidableEq, Repr, Inhabited

/-- The parameter set of the machine after reset. It has no body: nothing can be proved of it beyond what holds of every
legal set (spec/00_scope.md R11, spec/93_implementation_defined.md U13; log 1). -/
opaque Config.params : Params

/-- The byte that the image source answers beyond what the host listed of an image. The host's contract
(spec/20_memory.md R60, spec/93_implementation_defined.md U15) rules such a read out; the value is free (log 4). -/
opaque Config.imageByte : Pos → Nat → Byte

end Sys2Proof
end

