-- ==== Sys2Proof/Machine/Rom.lean ====
section
/-! DEFINITION. The parameters under the names of spec/00_scope.md R11, and the template ROM `TPL`
(spec/20_memory.md R53). -/
namespace Sys2Proof.Machine

/-- The bytes of a sized template. -/
def templateBytes (t : SizedTemplate) : List Byte :=
  t.head ++ t.field.toList ++ t.tail ++ t.slot.toList

/-- An open template as a sized template. -/
def openSized : OpenTemplate → SizedTemplate
  | .fieldInside first rest field tail slot => ⟨first :: rest, field, tail, slot⟩
  | .fieldFirst field next tail slot => ⟨[], field, next :: tail, slot⟩

/-- `HELLO_T`. -/
def helloT (c : Params) : List Byte := c.hello.toList

/-- `GEN_OFF`. -/
def genOff (c : Params) : Nat := c.gen.val

/-- `OPEN_T[p]`. -/
def openT (c : Params) (p : Pos) : List Byte := templateBytes (openSized c.opens[p])

/-- `OPEN_SIZE_OFF[p]`. -/
def openSizeOff (c : Params) (p : Pos) : Nat := (openSized c.opens[p]).head.length

/-- `TRAILER_T[p]`. -/
def trailerT (c : Params) (p : Pos) : List Byte := templateBytes c.trailers[p]

/-- `TRAILER_SIZE_OFF[p]`. -/
def trailerSizeOff (c : Params) (p : Pos) : Nat := c.trailers[p].head.length

/-- `CLOSE_T`. -/
def closeT (c : Params) : List Byte := c.close.toList

/-- `ACK_BUF_LEN`, at least 4. -/
def ackBufLen (c : Params) : Nat := c.ackSlack + 4

/-- The length of the longest template whose length R11 leaves open. -/
def longestTemplate (c : Params) : Nat :=
  max (max (openT c 0).length (max (openT c 1).length (openT c 2).length))
    (max (trailerT c 0).length (max (trailerT c 1).length (trailerT c 2).length))

/-- `CMD_MAX`: any capacity of at least 37 bytes that holds the longest template. -/
def cmdMax (c : Params) : Nat := c.cmdSlack + (longestTemplate c - 37) + 37

/-- `FRM_MAX = 2 * CMD_MAX + 2`. -/
def frmMax (c : Params) : Nat := 2 * cmdMax c + 2

/-- The template ROM by template id (spec/20_memory.md R53); ids above 7 hold nothing. -/
def template (c : Params) (t : Nat) : Option (List Byte) :=
  match t with
  | 0 => some (helloT c)
  | 1 => some (openT c 0)
  | 2 => some (openT c 1)
  | 3 => some (openT c 2)
  | 4 => some (trailerT c 0)
  | 5 => some (trailerT c 1)
  | 6 => some (trailerT c 2)
  | 7 => some (closeT c)
  | _ => none

end Sys2Proof.Machine
end

