-- ==== Sys2Proof/Machine/Builder.lean ====
section
/-! DEFINITION. The functions of the Command Builder (spec/42_command_builder.md R150, R151, R158 to R163). -/
namespace Sys2Proof.Machine

/-- `T[o := w]`: the bytes at `o .. o + len(w) - 1` replaced by `w` (spec/42_command_builder.md R159). -/
def patch (t : List Byte) (o : Nat) (w : List Byte) : List Byte :=
  t.take o ++ w ++ t.drop (o + w.length)

/-- The bytes of a command before its CRC slot (spec/30_encoding.md R86). -/
def payload (c : List Byte) : List Byte := c.take (c.length - slotLen)

/-- `seal(T)` (here `sealCmd`): `T` with its CRC slot patched (spec/42_command_builder.md R159). -/
def sealCmd (t : List Byte) : List Byte := patch t (t.length - slotLen) (le16 (fcs (payload t)))

/-- The byte at an index, each plus one modulo 256, no carry between the two (spec/42_command_builder.md R155). -/
def inc2 (t : List Byte) (o : Nat) : List Byte :=
  patch t o [t.getD o 0 + 1, t.getD (o + 1) 0 + 1]

/-- `adj(p, S)` (spec/42_command_builder.md R158): no value where the first image is shorter than 8 bytes. -/
def adj (p : Pos) (size : Word32) : Option Word32 :=
  if p = 0 then
    if trailerAdj ≤ size.toNat then some (size - BitVec.ofNat 32 trailerAdj) else none
  else some size

/-- `hello(g)` (spec/42_command_builder.md R160). -/
def helloCmd (c : Params) (g : Bool) : List Byte :=
  sealCmd (if g then inc2 (helloT c) (genOff c) else helloT c)

/-- `open_cmd(p, S)` (spec/42_command_builder.md R161), where `adj` has a value. -/
def openCmd (c : Params) (p : Pos) (size : Word32) : Option (List Byte) :=
  (adj p size).map fun v => sealCmd (patch (openT c p) (openSizeOff c p) (le32 v))

/-- `trailer_cmd(p, S)` (spec/42_command_builder.md R162), where `adj` has a value. -/
def trailerCmd (c : Params) (p : Pos) (size : Word32) : Option (List Byte) :=
  (adj p size).map fun v => sealCmd (patch (trailerT c p) (trailerSizeOff c p) (le32 v))

/-- `close_cmd()` (spec/42_command_builder.md R163). -/
def closeCmd (c : Params) : List Byte := sealCmd (closeT c)

end Sys2Proof.Machine
end

