-- ==== Sys2Proof/Machine/State.lean ====
section
/-! DEFINITION. The state of the block (spec/10_state.md R20 to R36), the outside world that its one step function reads
(logs 1 to 4), the reasons for which the model stops, and the state after reset (R40, spec/70_reset_and_hazards.md R260). -/
namespace Sys2Proof.Machine

/-- The states of the sequencer; codes 8 to 15 are never held (spec/10_state.md R27). -/
inductive SeqState where
  | start | helloSent | imageOpen | imageStreaming | imageAcked | closing | done | aborted
deriving DecidableEq, Repr

/-- The abort causes (spec/60_exceptions.md R231). -/
inductive Cause where
  | none | configError | transportTx | transportRx | ackFatal
deriving DecidableEq, Repr

/-- The refusal codes of the operation port (spec/60_exceptions.md R237). -/
inductive OpErr where
  | none | illegalOp | busy | operandRange | bufferOverflow
  | decMissingDelimiter | decBareDelimiter | decBadEscape | decTruncatedEscape | transportFail
deriving DecidableEq, Repr

/-- The kinds of a validation (spec/60_exceptions.md R236). -/
inductive AckKind where
  | ok | tooShort | missingFraming | unexpectedCode
deriving DecidableEq, Repr

/-- The fields of `LASTACK` (spec/10_state.md R35). -/
structure LastAck where
  kind : AckKind
  got : Byte
  expected : Byte
deriving DecidableEq, Repr

/-- What the transport answers to one `TxWrite` (spec/20_memory.md R56, R57). -/
inductive TxResult where
  | ok | failed
deriving DecidableEq, Repr

/-- What the transport answers to one `RxRead` (spec/20_memory.md R57, R58). -/
inductive RxResult where
  | burst (bytes : List Byte)
  | error
deriving DecidableEq, Repr

/-- One entry of the event history (spec/10_state.md R36). -/
inductive Event where
  | tx (payload : List Byte) (result : TxResult)
  | rx (result : RxResult)
deriving DecidableEq, Repr

/-- What the host does at one step: nothing, a request at the port, or reset (spec/30_encoding.md R84,
spec/70_reset_and_hazards.md R260). -/
inductive HostInput where
  | idle
  | request (w : RequestWord)
  | reset
deriving DecidableEq, Repr

/-- The block and the outside world it meets. -/
structure State where
  /-- The parameters (spec/00_scope.md R11); no step changes them. The model's own field (log 1). -/
  cfg : Params
  /-- `CRC` (spec/10_state.md R21). -/
  crc : Word16
  /-- `CMD[0 .. CMDLEN)` (R22, R41). -/
  cmd : List Byte
  /-- `FRM[0 .. FRMLEN)` (R23, R41). -/
  frm : List Byte
  /-- `ACK[0 .. ACKLEN)` (R24, R41). -/
  ack : List Byte
  /-- `RES` (R25). -/
  res : Word32
  /-- `GEN2` (R26). -/
  gen2 : Bool
  /-- `NIMG` (R26). -/
  nimg : BitVec 2
  /-- `SIZE[0..2]` (R26). -/
  size : Vector Word64 3
  /-- `SEQ` (R27). -/
  seq : SeqState
  /-- `IMG` (R28). -/
  img : Pos
  /-- `OFF` (R29). -/
  off : Word32
  /-- `AWAIT` (R30). -/
  await : Bool
  /-- `EXPECT` (R30). -/
  expect : Byte
  /-- `BUSY` (R31). -/
  busy : Bool
  /-- `DONE` (R31). -/
  done : Bool
  /-- `ABORTED` (R31). -/
  aborted : Bool
  /-- `CAUSE` (R32). -/
  cause : Cause
  /-- `OPERR` (R33). -/
  operr : OpErr
  /-- `ACKFLAGS` (R34). -/
  ackflags : BitVec 3
  /-- `LASTACK` (R35). -/
  lastack : LastAck
  /-- The event history, oldest first: `TXLOG` and `RXLOG` interleaved (R36). -/
  history : List Event
  /-- The request that stands at the port, not finished yet. The model's own field (log 3). -/
  port : Option RequestWord
  /-- What the host does at the coming steps. The model's own field (log 3). -/
  host : List HostInput
  /-- The results the transport will return from `RxRead`, in order; none: nothing delivered yet. The model's own (log 2). -/
  rx : List RxResult
  /-- The results the transport will return from `TxWrite`, in order; none: not taken yet. The model's own (log 2). -/
  tx : List TxResult
  /-- `IMAGE[i]` (spec/20_memory.md R60); no step changes it. The model's own field (log 4). -/
  images : Vector (List Byte) 3
deriving DecidableEq, Repr

/-- Why the machine is stuck: the spec gives the state no transition. No run from reset meets one (log 8); each is safe:
the model stops where the spec is silent. -/
inductive Fault where
  /-- Raised by `step` when `BUSY = 1` and the selector has no step (spec/30_encoding.md R85). Safe. -/
  | noStepSelected
  /-- Raised by `S.OPEN_TX` and `S.OPEN_ACK` of a next image when `IMG + 1` is no position (spec/10_state.md R28). Safe. -/
  | noSuchImage
  /-- Raised by `S.OPEN_TX` and `S.TRAILER_TX` when the first image's size is below 8 (spec/42_command_builder.md R158,
  spec/93_implementation_defined.md U1). Safe. -/
  | negativeSize
  /-- Raised by `S.CHUNK` when the first image's final chunk is shorter than 8 bytes (spec/44_transfer_sequencer.md R203,
  spec/93_implementation_defined.md U2). Safe. -/
  | negativeLength
  /-- Raised by `S.CHUNK` when `OFF` is above the image's size (spec/10_state.md R42 excludes it). Safe. -/
  | offsetBeyondSize
deriving DecidableEq, Repr

/-- Why an instruction has no meaning in the state it was given. -/
inductive Refusal where
  /-- Raised by `exec` for an instruction that has no meaning yet. Safe. -/
  | notModelled (mnemonic : String)
  /-- Raised by the meaning of a sequencer step in a state whose registers do not select that step
  (spec/44_transfer_sequencer.md R196: "exactly one step is selected by the registers"). `step` never asks for it. Safe (log 9). -/
  | stepNotEnabled
deriving DecidableEq, Repr

/-- What a meaning answers. -/
abbrev Result := Host.Outcome State Fault Refusal

/-- The machine right after reset (spec/10_state.md R37, R40; spec/70_reset_and_hazards.md R260). The last five fields and
`cfg` are the model's own: no request, nothing from the outside yet, an unknown parameter set (logs 1 to 4). -/
def State.reset : State where
  cfg := Config.params
  crc := 0xFFFF
  cmd := []
  frm := []
  ack := []
  res := 0
  gen2 := false
  nimg := 2
  size := #v[0, 0, 0]
  seq := .start
  img := 0
  off := 0
  await := false
  expect := 0
  busy := false
  done := false
  aborted := false
  cause := .none
  operr := .none
  ackflags := 0
  lastack := ⟨.ok, 0, 0⟩
  history := []
  port := none
  host := []
  rx := []
  tx := []
  images := #v[[], [], []]

end Sys2Proof.Machine
end

