-- ==== Sys2Proof/Machine/Codec.lean ====
section
/-! DEFINITION. The functions of the Frame Codec (spec/41_frame_codec.md R130 to R135). -/
namespace Sys2Proof.Machine

/-- The bytes that stand for one byte of a command (spec/41_frame_codec.md R130). -/
def escapeByte (x : Byte) : List Byte :=
  if x = delim then [esc, escDelim]
  else if x = esc then [esc, escEsc]
  else [x]

/-- `escape(b)` (spec/41_frame_codec.md R130): the scan from index 0 upward. -/
def escape (b : List Byte) : List Byte := b.flatMap escapeByte

/-- `encode(b) = [0x7E] ++ escape(b) ++ [0x7E]` (spec/41_frame_codec.md R131). -/
def encodeFrame (b : List Byte) : List Byte := [delim] ++ escape b ++ [delim]

/-- `unescape(f)` (spec/41_frame_codec.md R134): partial, the first error met from index 0 is the result. -/
def unescape : List Byte → Except OpErr (List Byte)
  | [] => .ok []
  | [x] =>
    if x = esc then .error .decTruncatedEscape
    else if x = delim then .error .decBareDelimiter
    else .ok [x]
  | x :: y :: t =>
    if x = esc then
      if y = escDelim then (unescape t).map (delim :: ·)
      else if y = escEsc then (unescape t).map (esc :: ·)
      else .error .decBadEscape
    else if x = delim then .error .decBareDelimiter
    else (unescape (y :: t)).map (x :: ·)

/-- `decode(f)` (spec/41_frame_codec.md R135): the delimiters are stripped first, the CRC is not checked. -/
def decodeFrame (f : List Byte) : Except OpErr (List Byte) :=
  if f.length < 2 ∨ f.head? ≠ some delim ∨ f.getLast? ≠ some delim then .error .decMissingDelimiter
  else unescape ((f.drop 1).dropLast)

end Sys2Proof.Machine
end

