-- ==== Sys2Proof/Machine/Flags.lean ====
section
/-! DEFINITION. Codes and flags: the numbers of the states, causes, refusals and kinds (spec/10_state.md R27,
spec/60_exceptions.md R231, R236, R237), the status words of spec/10_state.md R37, and the validator with the
bookkeeping of `ACKFLAGS` and `LASTACK` (spec/43_response_validator.md R180, R186). -/
namespace Sys2Proof.Machine

/-- The code of a sequencer state (spec/10_state.md R27). -/
def seqCode : SeqState → BitVec 4
  | .start => 0
  | .helloSent => 1
  | .imageOpen => 2
  | .imageStreaming => 3
  | .imageAcked => 4
  | .closing => 5
  | .done => 6
  | .aborted => 7

/-- The sequencer state of a code; codes 8 to 15 name none (spec/10_state.md R27). -/
def seqOfCode (n : Nat) : Option SeqState :=
  match n with
  | 0 => some .start
  | 1 => some .helloSent
  | 2 => some .imageOpen
  | 3 => some .imageStreaming
  | 4 => some .imageAcked
  | 5 => some .closing
  | 6 => some .done
  | 7 => some .aborted
  | _ => none

/-- The code of an abort cause (spec/60_exceptions.md R231). -/
def causeCode : Cause → BitVec 4
  | .none => 0
  | .configError => 1
  | .transportTx => 2
  | .transportRx => 3
  | .ackFatal => 4

/-- The code of a refusal (spec/60_exceptions.md R237). -/
def opErrCode : OpErr → BitVec 4
  | .none => 0
  | .illegalOp => 1
  | .busy => 2
  | .operandRange => 3
  | .bufferOverflow => 4
  | .decMissingDelimiter => 5
  | .decBareDelimiter => 6
  | .decBadEscape => 7
  | .decTruncatedEscape => 8
  | .transportFail => 9

/-- The code of a validation's kind (spec/60_exceptions.md R236). -/
def ackKindCode : AckKind → BitVec 2
  | .ok => 0
  | .tooShort => 1
  | .missingFraming => 2
  | .unexpectedCode => 3

/-- The sticky flag that a kind sets: bit 0 `TOOSHORT`, bit 1 `NOFRAMING`, bit 2 `BADCODE` (spec/10_state.md R34). -/
def ackKindFlag : AckKind → BitVec 3
  | .ok => 0b000
  | .tooShort => 0b001
  | .missingFraming => 0b010
  | .unexpectedCode => 0b100

/-- `LASTACK` as 32 bits: `KIND` 1:0, `GOT` 15:8, `EXPECTED` 23:16 (spec/10_state.md R35). -/
def lastAckWord (l : LastAck) : Word32 :=
  (0#8 ++ l.expected ++ l.got ++ (0#6 ++ ackKindCode l.kind) : BitVec 32)

/-- `STATUS`: bit 0 `BUSY`, bit 1 `DONE`, bit 2 `ABORTED`, bit 3 `AWAIT` (spec/10_state.md R37). -/
def statusWord (s : State) : BitVec 4 :=
  BitVec.ofBool s.await ++ BitVec.ofBool s.aborted ++ BitVec.ofBool s.done ++ BitVec.ofBool s.busy

/-- Register `SEQ`: bits 3:0 `SEQ`, bits 5:4 `IMG` (spec/10_state.md R37). -/
def seqWord (s : State) : BitVec 6 :=
  BitVec.ofNat 2 s.img.val ++ seqCode s.seq

/-- `validate(f, k)` (spec/43_response_validator.md R180): the kind, with the code got where the kind is
`UnexpectedCode` and 0 elsewhere (spec/43_response_validator.md R186). The order of the checks is the rule's. -/
def validate (f : List Byte) (k : Byte) : AckKind × Byte :=
  if f.length < ackMinLen then (.tooShort, 0)
  else if f.head? ≠ some delim ∨ f.getLast? ≠ some delim then (.missingFraming, 0)
  else if f.getD 1 0 ≠ k then (.unexpectedCode, f.getD 1 0)
  else (.ok, 0)

/-- `record(v, k)` (spec/43_response_validator.md R186): `LASTACK` overwritten, the kind's flag set, none cleared. -/
def State.record (s : State) (v : AckKind × Byte) (k : Byte) : State :=
  { s with lastack := ⟨v.1, v.2, k⟩, ackflags := s.ackflags ||| ackKindFlag v.1 }

end Sys2Proof.Machine
end

