-- ==== Sys2Proof/Machine/Operands.lean ====
section
/-! DEFINITION. Operand forms: positions, register numbers and buffer spaces taken from a request's 32-bit operands
(spec/30_encoding.md R82), and the one place where numbered registers are read and written (spec/10_state.md R37,
spec/44_transfer_sequencer.md R192 to R194). -/
namespace Sys2Proof.Machine

/-- The position an operand names; above 2 it names none (spec/42_command_builder.md R165). -/
def posOf (p : Word32) : Option Pos :=
  match p.toNat with
  | 0 => some 0
  | 1 => some 1
  | 2 => some 2
  | _ => none

/-- The space an operand names: 0 `CMD`, 1 `FRM`, 2 `ACK` (spec/44_transfer_sequencer.md R192). -/
def spaceOf (sp : Word32) : Option Space :=
  match sp.toNat with
  | 0 => some .cmd
  | 1 => some .frm
  | 2 => some .ack
  | _ => none

/-- The register of a number (spec/10_state.md R37); every other number is unassigned. -/
def regOf (r : Word32) : Option Reg :=
  match r.toNat with
  | 0x00 => some .status
  | 0x01 => some .seq
  | 0x02 => some .cause
  | 0x03 => some .operr
  | 0x04 => some .ackflags
  | 0x05 => some .lastack
  | 0x06 => some .expect
  | 0x07 => some .off
  | 0x08 => some .crc
  | 0x09 => some .res
  | 0x0A => some .cmdlen
  | 0x0B => some .frmlen
  | 0x0C => some .acklen
  | 0x10 => some .gen2
  | 0x11 => some .nimg
  | 0x12 => some .size0lo
  | 0x13 => some .size0hi
  | 0x14 => some .size1lo
  | 0x15 => some .size1hi
  | 0x16 => some .size2lo
  | 0x17 => some .size2hi
  | _ => none

/-- The contents of a buffer space (spec/20_memory.md R50). -/
def State.buffer (s : State) : Space → List Byte
  | .cmd => s.cmd
  | .frm => s.frm
  | .ack => s.ack

/-- One byte of a buffer space: a byte at or above the length holds no value (spec/10_state.md R41, spec/20_memory.md R51). -/
def State.readByte (s : State) (sp : Space) (i : Nat) : Option Byte := (s.buffer sp)[i]?

/-- `SIZE[i][31:0]`. -/
def State.sizeLo (s : State) (p : Pos) : Word32 := s.size[p].extractLsb' 0 32

/-- `SIZE[i][63:32]`. -/
def State.sizeHi (s : State) (p : Pos) : Word32 := s.size[p].extractLsb' 32 32

/-- `SIZE[i][31:0] <- v`. -/
def State.setSizeLo (s : State) (p : Pos) (v : Word32) : State :=
  { s with size := s.size.set p (s.sizeHi p ++ v) }

/-- `SIZE[i][63:32] <- v`. -/
def State.setSizeHi (s : State) (p : Pos) (v : Word32) : State :=
  { s with size := s.size.set p (v ++ s.sizeLo p) }

/-- The value of a register, zero-extended to 32 bits (spec/10_state.md R37). A length register answers the low 32 bits
of the buffer's length (log 11). -/
def State.readReg (s : State) : Reg → Word32
  | .status => (statusWord s).setWidth 32
  | .seq => (seqWord s).setWidth 32
  | .cause => (causeCode s.cause).setWidth 32
  | .operr => (opErrCode s.operr).setWidth 32
  | .ackflags => s.ackflags.setWidth 32
  | .lastack => lastAckWord s.lastack
  | .expect => s.expect.setWidth 32
  | .off => s.off
  | .crc => s.crc.setWidth 32
  | .res => s.res
  | .cmdlen => BitVec.ofNat 32 s.cmd.length
  | .frmlen => BitVec.ofNat 32 s.frm.length
  | .acklen => BitVec.ofNat 32 s.ack.length
  | .gen2 => (BitVec.ofBool s.gen2).setWidth 32
  | .nimg => s.nimg.setWidth 32
  | .size0lo => s.sizeLo 0
  | .size0hi => s.sizeHi 0
  | .size1lo => s.sizeLo 1
  | .size1hi => s.sizeHi 1
  | .size2lo => s.sizeLo 2
  | .size2hi => s.sizeHi 2

/-- A register written by `REG.WR` (spec/44_transfer_sequencer.md R193); a read-only register takes no write. -/
def State.writeReg (s : State) (r : Reg) (v : Word32) : Option State :=
  match r with
  | .gen2 => some { s with gen2 := v.getLsbD 0 }
  | .nimg => some { s with nimg := v.setWidth 2 }
  | .size0lo => some (s.setSizeLo 0 v)
  | .size0hi => some (s.setSizeHi 0 v)
  | .size1lo => some (s.setSizeLo 1 v)
  | .size1hi => some (s.setSizeHi 1 v)
  | .size2lo => some (s.setSizeLo 2 v)
  | .size2hi => some (s.setSizeHi 2 v)
  | .status | .seq | .cause | .operr | .ackflags | .lastack | .expect | .off | .crc | .res | .cmdlen | .frmlen | .acklen => none

end Sys2Proof.Machine
end

