-- ==== Sys2Proof/Machine/Ops.lean ====
section
/-! DEFINITION. The shared operations: how an operation at the port ends (spec/60_exceptions.md R238), the streams `TX`,
`RX`, `IMG` (spec/20_memory.md R56 to R60), taking an abort (spec/60_exceptions.md R240) and what leaves one, reset
(spec/70_reset_and_hazards.md R260), and the selection of a sequencer step (spec/30_encoding.md R85). -/
namespace Sys2Proof.Machine

/-! ### The operation port -/

/-- The end of a request: `OPERR` written, the port free. -/
def State.finish (s : State) (e : OpErr) : State := { s with operr := e, port := none }

/-- An operation that was performed: `OPERR <- 0`. -/
def State.performed (s : State) : State := s.finish .none

/-- `refuse E`: `OPERR <- E` and nothing else changes (spec/60_exceptions.md R238). -/
def State.refuse (s : State) (e : OpErr) : State := s.finish e

/-- The idle block, `BUSY = 0` and `SEQ = Start` (spec/30_encoding.md R84): the only one that takes every operation. -/
def State.isIdle (s : State) : Bool := !s.busy && s.seq == .start

/-- An operation that only the idle block performs; elsewhere it is refused with `Busy` before its own checks
(spec/30_encoding.md R84, spec/60_exceptions.md R239). -/
def State.whenIdle (s : State) (body : Result) : Result :=
  if s.isIdle then body else .next (s.refuse .busy)

/-! ### The streams -/

/-- `TxWrite(b)` (spec/20_memory.md R56, R57): the transport's result and the state with the event appended; nothing
while the transport has not taken the bytes. -/
def State.txWrite (s : State) (b : List Byte) : Option (TxResult × State) :=
  match s.tx with
  | [] => none
  | r :: rest => some (r, { s with tx := rest, history := s.history ++ [.tx b r] })

/-- `RxRead()` (spec/20_memory.md R57, R58): at most `ACK_BUF_LEN` bytes of what the transport delivers next; bytes not
consumed stay first in line (log 6); nothing while the transport has not answered. -/
def State.rxRead (s : State) : Option (RxResult × State) :=
  match s.rx with
  | [] => none
  | .error :: rest => some (.error, { s with rx := rest, history := s.history ++ [.rx .error] })
  | .burst r :: rest =>
    let got := r.take (ackBufLen s.cfg)
    let left := r.drop (ackBufLen s.cfg)
    some (.burst got,
      { s with
        rx := if left = [] then rest else .burst left :: rest
        ack := got
        history := s.history ++ [.rx (.burst got)] })

/-- One byte of `IMAGE[p]` (spec/20_memory.md R60); beyond what the host listed the byte is free (log 4). -/
def State.imageByte (s : State) (p : Pos) (i : Nat) : Byte :=
  s.images[p].getD i (Config.imageByte p i)

/-- `ImgRead(p, off, n)` (spec/20_memory.md R60): exactly `n` bytes, no side effect; `imgRead_eq_map` of `Laws/Ops.lean`
says that they are the bytes at `off .. off + n - 1`. -/
def State.imgRead (s : State) (p : Pos) (off n : Nat) : List Byte :=
  let got := (s.images[p].drop off).take n
  got ++ (List.range (n - got.length)).map fun k => s.imageByte p (off + got.length + k)

/-! ### Abort and reset -/

/-- Abort entry (spec/60_exceptions.md R240, R231 to R234): `CAUSE`, `SEQ <- Aborted`, `ABORTED <- 1`, `BUSY` and `AWAIT`
cleared, everything else kept. Nothing returns from it (R241). -/
def State.abort (s : State) (c : Cause) : State :=
  { s with cause := c, seq := .aborted, aborted := true, busy := false, await := false }

/-- Reset, the only way out of an abort (spec/70_reset_and_hazards.md R260, R261; spec/60_exceptions.md R241): every register
at its reset value, the logs empty; parameters, images and what is in the transport are no state of the block and stay. -/
def State.applyReset (s : State) : State :=
  { State.reset with cfg := s.cfg, images := s.images, rx := s.rx, tx := s.tx, host := s.host }

/-! ### What the sequencer's steps share -/

/-- `LAST = 1` exactly when `IMG + 1 = NIMG` (spec/30_encoding.md R85). -/
def State.last (s : State) : Bool := s.img.val + 1 == s.nimg.toNat

/-- The selector read off the registers (spec/30_encoding.md R85). -/
def State.selector (s : State) : Selector := selectorWord (seqCode s.seq) s.await s.last

/-- The step that the registers select while `BUSY = 1` (spec/44_transfer_sequencer.md R196). -/
def State.selected (s : State) : Option Instr :=
  if s.busy then (decodeSelector s.selector).toOption else none

/-- A step's effect where the registers select the step; there is no such transition elsewhere (log 9). -/
def State.whenSelected (s : State) (i : Instr) (body : Result) : Result :=
  if s.selected = some i then body else .refused .stepNotEnabled

/-- A build's effect: the command in `CMD`, the un-complemented CRC of its payload in `CRC`
(spec/42_command_builder.md R164 to R167). -/
def State.build (s : State) (c : List Byte) : State :=
  { s with cmd := c, crc := crc16 crcInitial (payload c) }

/-- A sending step: `before` holds the assignments that precede the write, `after` makes those that follow it. A failed
write aborts and keeps the former (spec/60_exceptions.md R233); while the write does not return the step has not
happened (spec/70_reset_and_hazards.md R267, log 7). -/
def State.transmit (s before : State) (b : List Byte) (after : State → State) : Result :=
  match before.txWrite b with
  | none => .next s
  | some (.ok, t) => .next (after t)
  | some (.failed, t) => .next (t.abort .transportTx)

/-- `send_framed(c)` for the command `c` just built (spec/41_frame_codec.md R146). -/
def State.sendFramed (s : State) (c : List Byte) (after : State → State) : Result :=
  s.transmit { s.build c with frm := encodeFrame c } (encodeFrame c) after

/-- `send_unframed(c)` for the command `c` just built (spec/41_frame_codec.md R146). -/
def State.sendUnframed (s : State) (c : List Byte) (after : State → State) : Result :=
  s.transmit { s.build c with frm := c } c after

/-- `await(k)` and what follows it (spec/44_transfer_sequencer.md R207): one read, one validation, no retry, no timeout. -/
def State.awaitAck (s : State) (k : Byte) (after : State → State) : Result :=
  match s.rxRead with
  | none => .next s
  | some (.error, t) => .next (t.abort .transportRx)
  | some (.burst r, t) =>
    let v := validate r k
    let u := t.record v k
    if v.1 ≠ .ok ∧ s.cfg.ackFatal = true then .next (u.abort .ackFatal) else .next (after u)

/-- `config_ok()` (spec/44_transfer_sequencer.md R195), conditions (a) to (e). -/
def State.configOk (s : State) : Bool :=
  (s.nimg == 2 || s.nimg == 3)
    && (s.nimg != 3 || s.gen2)
    && (s.size[0].toNat ≤ 0xFFFFFFFF && s.size[1].toNat ≤ 0xFFFFFFFF && (s.nimg != 3 || s.size[2].toNat ≤ 0xFFFFFFFF))
    && 8 ≤ s.size[0].toNat
    && 8 ≤ s.size[0].toNat % chunk

end Sys2Proof.Machine
end

