-- ==== Sys2Proof/Machine/CommandBuilder.lean ====
section
/-! DEFINITION. The operations of the Command Builder and the CRC-slot patcher (spec/42_command_builder.md R152 to R157,
R164 to R167). -/
namespace Sys2Proof.Machine

/-- `CMD.CLR` (spec/42_command_builder.md R153). -/
def execCmdClr (s : State) : Result :=
  s.whenIdle (.next { s.performed with cmd := [] })

/-- `CMD.PUT b` (spec/42_command_builder.md R157). -/
def execCmdPut (b : Byte) (s : State) : Result :=
  s.whenIdle
    (if s.cmd.length = cmdMax s.cfg then .next (s.refuse .bufferOverflow)
     else .next { s.performed with cmd := s.cmd ++ [b] })

/-- `CMD.LOAD t` (spec/42_command_builder.md R152). -/
def execCmdLoad (t : Word32) (s : State) : Result :=
  s.whenIdle
    (match template s.cfg t.toNat with
     | none => .next (s.refuse .operandRange)
     | some c => .next { s.performed with cmd := c })

/-- `CMD.PUT32 o, v` (spec/42_command_builder.md R154): the bound is on unbounded integers. -/
def execCmdPut32 (o v : Word32) (s : State) : Result :=
  s.whenIdle
    (if s.cmd.length < o.toNat + 4 then .next (s.refuse .operandRange)
     else .next { s.performed with cmd := patch s.cmd o.toNat (le32 v) })

/-- `CMD.INC2 o` (spec/42_command_builder.md R155). -/
def execCmdInc2 (o : Word32) (s : State) : Result :=
  s.whenIdle
    (if s.cmd.length < o.toNat + 2 then .next (s.refuse .operandRange)
     else .next { s.performed with cmd := inc2 s.cmd o.toNat })

/-- `CMD.CRCPATCH` (spec/42_command_builder.md R156). -/
def execCmdCrcpatch (s : State) : Result :=
  s.whenIdle
    (if s.cmd.length < 2 then .next (s.refuse .operandRange)
     else .next { s.performed with crc := crc16 crcInitial (payload s.cmd), cmd := sealCmd s.cmd })

/-- `CMD.HELLO g` (spec/42_command_builder.md R164): the generation is the operand, not `GEN2`. -/
def execCmdHello (g : Bool) (s : State) : Result :=
  s.whenIdle (.next (s.performed.build (helloCmd s.cfg g)))

/-- `CMD.OPEN p, S` (spec/42_command_builder.md R165): `open_cmd` has no value for a first image below 8 bytes. -/
def execCmdOpen (p size : Word32) (s : State) : Result :=
  s.whenIdle
    (match (posOf p).bind fun i => openCmd s.cfg i size with
     | none => .next (s.refuse .operandRange)
     | some c => .next (s.performed.build c))

/-- `CMD.TRAILER p, S` (spec/42_command_builder.md R166): `trailer_cmd` has no value for a first image below 8 bytes. -/
def execCmdTrailer (p size : Word32) (s : State) : Result :=
  s.whenIdle
    (match (posOf p).bind fun i => trailerCmd s.cfg i size with
     | none => .next (s.refuse .operandRange)
     | some c => .next (s.performed.build c))

/-- `CMD.CLOSE` (spec/42_command_builder.md R167). -/
def execCmdClose (s : State) : Result :=
  s.whenIdle (.next (s.performed.build (closeCmd s.cfg)))

end Sys2Proof.Machine
end

