-- ==== Sys2Proof/Machine/CrcEngine.lean ====
section
/-! DEFINITION. The operations of the CRC Engine (spec/40_crc_engine.md R117 to R121). -/
namespace Sys2Proof.Machine

/-- `CRC.INIT` (spec/40_crc_engine.md R117). -/
def execCrcInit (s : State) : Result :=
  s.whenIdle (.next { s.performed with crc := crcInitial })

/-- `CRC.LOAD init` (spec/40_crc_engine.md R118). -/
def execCrcLoad (init : Word16) (s : State) : Result :=
  s.whenIdle (.next { s.performed with crc := init })

/-- `CRC.STEP b` (spec/40_crc_engine.md R119). -/
def execCrcStep (b : Byte) (s : State) : Result :=
  s.whenIdle (.next { s.performed with crc := crcByte s.crc b })

/-- `CRC.BUF n` (spec/40_crc_engine.md R120). -/
def execCrcBuf (n : Word32) (s : State) : Result :=
  s.whenIdle
    (if s.cmd.length < n.toNat then .next (s.refuse .operandRange)
     else .next { s.performed with crc := crc16 s.crc (s.cmd.take n.toNat) })

/-- `CRC.FINAL` (spec/40_crc_engine.md R121). -/
def execCrcFinal (s : State) : Result :=
  s.whenIdle (.next { s.performed with res := (~~~ s.crc).setWidth 32 })

end Sys2Proof.Machine
end

