-- ==== Sys2Proof/Machine/FrameCodec.lean ====
section
/-! DEFINITION. The operations of the Frame Codec (spec/41_frame_codec.md R138 to R145). -/
namespace Sys2Proof.Machine

/-- `FRM.ESC` (spec/41_frame_codec.md R138). -/
def execFrmEsc (s : State) : Result :=
  s.whenIdle (.next { s.performed with frm := escape s.cmd })

/-- `FRM.ENC` (spec/41_frame_codec.md R140). -/
def execFrmEnc (s : State) : Result :=
  s.whenIdle (.next { s.performed with frm := encodeFrame s.cmd })

/-- `FRM.RAW` (spec/41_frame_codec.md R141). -/
def execFrmRaw (s : State) : Result :=
  s.whenIdle (.next { s.performed with frm := s.cmd })

/-- The end of a decoding operation: its error refused, a result above `CMD_MAX` refused, else the result in `CMD`
(spec/41_frame_codec.md R142, R143). -/
def State.takeDecoded (s : State) (r : Except OpErr (List Byte)) : State :=
  match r with
  | .error e => s.refuse e
  | .ok b => if cmdMax s.cfg < b.length then s.refuse .bufferOverflow else { s.performed with cmd := b }

/-- `FRM.UNESC` (spec/41_frame_codec.md R142). -/
def execFrmUnesc (s : State) : Result :=
  s.whenIdle (.next (s.takeDecoded (unescape s.frm)))

/-- `FRM.DEC` (spec/41_frame_codec.md R143). -/
def execFrmDec (s : State) : Result :=
  s.whenIdle (.next (s.takeDecoded (decodeFrame s.frm)))

/-- `TX.SEND` (spec/41_frame_codec.md R139): while the write does not return the port stays occupied; a failed write is a
refusal and aborts nothing. -/
def execTxSend (s : State) : Result :=
  s.whenIdle
    (match s.txWrite s.frm with
     | none => .next s
     | some (.ok, t) => .next t.performed
     | some (.failed, t) => .next (t.refuse .transportFail))

/-- `FRM.CLR` (spec/41_frame_codec.md R144). -/
def execFrmClr (s : State) : Result :=
  s.whenIdle (.next { s.performed with frm := [] })

/-- `FRM.PUT b` (spec/41_frame_codec.md R145). -/
def execFrmPut (b : Byte) (s : State) : Result :=
  s.whenIdle
    (if s.frm.length = frmMax s.cfg then .next (s.refuse .bufferOverflow)
     else .next { s.performed with frm := s.frm ++ [b] })

end Sys2Proof.Machine
end

