-- ==== Sys2Proof/Machine/HostAccess.lean ====
section
/-! DEFINITION. `SEQ.RUN` and host access (spec/44_transfer_sequencer.md R191 to R194). -/
namespace Sys2Proof.Machine

/-- `SEQ.RUN` (spec/44_transfer_sequencer.md R191): sets `BUSY`, or takes the abort `ConfigError`
(spec/60_exceptions.md R232), in both cases with `OPERR <- 0`. -/
def execSeqRun (s : State) : Result :=
  s.whenIdle
    (if s.configOk then .next { s.performed with busy := true }
     else .next (s.performed.abort .configError))

/-- `REG.WR reg, value` (spec/44_transfer_sequencer.md R193): read-only and unassigned numbers are refused alike. -/
def execRegWr (r v : Word32) (s : State) : Result :=
  s.whenIdle
    (match (regOf r).bind fun g => s.writeReg g v with
     | none => .next (s.refuse .operandRange)
     | some t => .next t.performed)

/-- `REG.RD reg` (spec/44_transfer_sequencer.md R194): in every state; the value is the one before this request. -/
def execRegRd (r : Word32) (s : State) : Result :=
  match regOf r with
  | none => .next (s.refuse .operandRange)
  | some g => .next { s.performed with res := s.readReg g }

/-- `BUF.RD space, index` (spec/44_transfer_sequencer.md R192): in every state. -/
def execBufRd (space index : Word32) (s : State) : Result :=
  match (spaceOf space).bind fun sp => s.readByte sp index.toNat with
  | none => .next (s.refuse .operandRange)
  | some b => .next { s.performed with res := b.setWidth 32 }

end Sys2Proof.Machine
end

