-- ==== Sys2Proof/Machine/ResponseValidator.lean ====
section
/-! DEFINITION. The operations of the Response Validator (spec/43_response_validator.md R182 to R185). -/
namespace Sys2Proof.Machine

/-- `ACK.CLR` (spec/43_response_validator.md R182). -/
def execAckClr (s : State) : Result :=
  s.whenIdle (.next { s.performed with ack := [] })

/-- `ACK.PUT b` (spec/43_response_validator.md R184). -/
def execAckPut (b : Byte) (s : State) : Result :=
  s.whenIdle
    (if s.ack.length = ackBufLen s.cfg then .next (s.refuse .bufferOverflow)
     else .next { s.performed with ack := s.ack ++ [b] })

/-- `ACK.RECV` (spec/43_response_validator.md R183): while the read does not return the port stays occupied; a failed read
is a refusal, leaves `ACK`, and aborts nothing. -/
def execAckRecv (s : State) : Result :=
  s.whenIdle
    (match s.rxRead with
     | none => .next s
     | some (.burst _, t) => .next t.performed
     | some (.error, t) => .next (t.refuse .transportFail))

/-- `ACK.CHECK k` (spec/43_response_validator.md R185): a validation error is a result, not a refusal. -/
def execAckCheck (k : Byte) (s : State) : Result :=
  let t := s.record (validate s.ack k) k
  s.whenIdle (.next { t.performed with res := lastAckWord t.lastack })

end Sys2Proof.Machine
end

