-- ==== Sys2Proof/Machine/TransferSequencer.lean ====
section
/-! DEFINITION. The sequencer's steps (spec/44_transfer_sequencer.md R197 to R207). Each takes effect where the registers
select it (R196); the assignments are in the order of the rule's pseudocode. -/
namespace Sys2Proof.Machine

/-- The position after `IMG`, where there is one (spec/10_state.md R28). -/
def State.nextImg (s : State) : Option Pos :=
  if h : s.img.val + 1 < 3 then some ⟨s.img.val + 1, h⟩ else none

/-- `AWAIT <- 1; EXPECT <- k`. -/
def State.expectAck (s : State) (k : Byte) : State := { s with await := true, expect := k }

/-- The body of `S.OPEN_TX` for the image at position `j` (spec/44_transfer_sequencer.md R199). -/
def State.openTx (s : State) (j : Pos) : Result :=
  match openCmd s.cfg j (s.sizeLo j) with
  | none => .fault .negativeSize
  | some c => s.sendFramed c fun t => t.expectAck ackOpen

/-- The body of `S.OPEN_ACK` that makes `j` the image in progress (spec/44_transfer_sequencer.md R200). -/
def State.openAckTo (s : State) (j : Pos) : Result :=
  s.awaitAck ackOpen fun t => { t with await := false, img := j, seq := .imageOpen }

/-- `S.HELLO_TX` (spec/44_transfer_sequencer.md R197). -/
def execSHelloTx (s : State) : Result :=
  s.whenSelected .sHelloTx (s.sendFramed (helloCmd s.cfg s.gen2) fun t => t.expectAck ackHello)

/-- `S.HELLO_ACK` (spec/44_transfer_sequencer.md R198). -/
def execSHelloAck (s : State) : Result :=
  s.whenSelected .sHelloAck (s.awaitAck ackHello fun t => { t with await := false, seq := .helloSent })

/-- `S.OPEN_TX`, first image: `j = 0` (spec/44_transfer_sequencer.md R199). -/
def execSOpenTxFirst (s : State) : Result :=
  s.whenSelected .sOpenTxFirst (s.openTx 0)

/-- `S.OPEN_TX`, next image: `j = IMG + 1` (spec/44_transfer_sequencer.md R199). -/
def execSOpenTxNext (s : State) : Result :=
  s.whenSelected .sOpenTxNext
    (match s.nextImg with
     | none => .fault .noSuchImage
     | some j => s.openTx j)

/-- `S.OPEN_ACK`, first image: `IMG <- 0` (spec/44_transfer_sequencer.md R200). -/
def execSOpenAckFirst (s : State) : Result :=
  s.whenSelected .sOpenAckFirst (s.openAckTo 0)

/-- `S.OPEN_ACK`, next image: `IMG <- IMG + 1` (spec/44_transfer_sequencer.md R200). -/
def execSOpenAckNext (s : State) : Result :=
  s.whenSelected .sOpenAckNext
    (match s.nextImg with
     | none => .fault .noSuchImage
     | some j => s.openAckTo j)

/-- `S.TRAILER_TX` (spec/44_transfer_sequencer.md R201): raw, and no read before the data. -/
def execSTrailerTx (s : State) : Result :=
  s.whenSelected .sTrailerTx
    (match trailerCmd s.cfg s.img (s.sizeLo s.img) with
     | none => .fault .negativeSize
     | some c => s.sendUnframed c fun t => { t with off := 0, seq := .imageStreaming })

/-- The length of the next chunk, `min(262144, S - OFF)` (spec/44_transfer_sequencer.md R203). -/
def State.chunkLen (s : State) : Nat := min chunk ((s.sizeLo s.img).toNat - s.off.toNat)

/-- `S.CHUNK` (spec/44_transfer_sequencer.md R203): one read and one write; the first image's last 8 bytes are read and
not written. -/
def execSChunk (s : State) : Result :=
  s.whenSelected .sChunk
    (let n := s.chunkLen
     let buf := s.imgRead s.img s.off.toNat n
     if (s.sizeLo s.img).toNat < s.off.toNat then .fault .offsetBeyondSize
     else if n = chunk then
       s.transmit s buf fun t => { t with off := t.off + BitVec.ofNat 32 chunk }
     else if s.img = 0 ∧ n < trailerAdj then .fault .negativeLength
     else
       s.transmit s (buf.take (if s.img = 0 then n - trailerAdj else n)) fun t =>
         { t with off := t.off + BitVec.ofNat 32 n }.expectAck ackData)

/-- `S.DATA_ACK` (spec/44_transfer_sequencer.md R204). -/
def execSDataAck (s : State) : Result :=
  s.whenSelected .sDataAck (s.awaitAck ackData fun t => { t with await := false, seq := .imageAcked })

/-- `S.CLOSE_TX` (spec/44_transfer_sequencer.md R205): no read follows. -/
def execSCloseTx (s : State) : Result :=
  s.whenSelected .sCloseTx (s.sendFramed (closeCmd s.cfg) fun t => { t with seq := .closing })

/-- `S.FINISH` (spec/44_transfer_sequencer.md R206). -/
def execSFinish (s : State) : Result :=
  s.whenSelected .sFinish (.next { s with seq := .done, done := true, busy := false })

end Sys2Proof.Machine
end

