-- ==== Sys2Proof/Machine/Dispatch.lean ====
section
/-! DEFINITION. One arm per instruction, each one direct call of its meaning. -/
namespace Sys2Proof.Machine

def exec (i : Instr) (s : State) : Host.Outcome State Fault Refusal :=
  match i with
  | .crcInit => Sys2Proof.Machine.execCrcInit s
  | .crcLoad init => Sys2Proof.Machine.execCrcLoad init s
  | .crcStep b => Sys2Proof.Machine.execCrcStep b s
  | .crcBuf n => Sys2Proof.Machine.execCrcBuf n s
  | .crcFinal => Sys2Proof.Machine.execCrcFinal s
  | .frmEsc => Sys2Proof.Machine.execFrmEsc s
  | .frmEnc => Sys2Proof.Machine.execFrmEnc s
  | .frmRaw => Sys2Proof.Machine.execFrmRaw s
  | .frmUnesc => Sys2Proof.Machine.execFrmUnesc s
  | .frmDec => Sys2Proof.Machine.execFrmDec s
  | .txSend => Sys2Proof.Machine.execTxSend s
  | .frmClr => Sys2Proof.Machine.execFrmClr s
  | .frmPut b => Sys2Proof.Machine.execFrmPut b s
  | .cmdClr => Sys2Proof.Machine.execCmdClr s
  | .cmdPut b => Sys2Proof.Machine.execCmdPut b s
  | .cmdLoad t => Sys2Proof.Machine.execCmdLoad t s
  | .cmdPut32 o v => Sys2Proof.Machine.execCmdPut32 o v s
  | .cmdInc2 o => Sys2Proof.Machine.execCmdInc2 o s
  | .cmdCrcpatch => Sys2Proof.Machine.execCmdCrcpatch s
  | .cmdHello g => Sys2Proof.Machine.execCmdHello g s
  | .cmdOpen p size => Sys2Proof.Machine.execCmdOpen p size s
  | .cmdTrailer p size => Sys2Proof.Machine.execCmdTrailer p size s
  | .cmdClose => Sys2Proof.Machine.execCmdClose s
  | .ackClr => Sys2Proof.Machine.execAckClr s
  | .ackPut b => Sys2Proof.Machine.execAckPut b s
  | .ackRecv => Sys2Proof.Machine.execAckRecv s
  | .ackCheck k => Sys2Proof.Machine.execAckCheck k s
  | .seqRun => Sys2Proof.Machine.execSeqRun s
  | .regWr r v => Sys2Proof.Machine.execRegWr r v s
  | .regRd r => Sys2Proof.Machine.execRegRd r s
  | .bufRd space index => Sys2Proof.Machine.execBufRd space index s
  | .sHelloTx => Sys2Proof.Machine.execSHelloTx s
  | .sHelloAck => Sys2Proof.Machine.execSHelloAck s
  | .sOpenTxFirst => Sys2Proof.Machine.execSOpenTxFirst s
  | .sOpenTxNext => Sys2Proof.Machine.execSOpenTxNext s
  | .sOpenAckFirst => Sys2Proof.Machine.execSOpenAckFirst s
  | .sOpenAckNext => Sys2Proof.Machine.execSOpenAckNext s
  | .sTrailerTx => Sys2Proof.Machine.execSTrailerTx s
  | .sChunk => Sys2Proof.Machine.execSChunk s
  | .sDataAck => Sys2Proof.Machine.execSDataAck s
  | .sCloseTx => Sys2Proof.Machine.execSCloseTx s
  | .sFinish => Sys2Proof.Machine.execSFinish s

end Sys2Proof.Machine
end

