-- ==== Sys2Proof/Machine/Fetch.lean ====
section
/-! DEFINITION. What a step runs: the host's input of the step, the request at the port, the step that the sequencer's
registers select (spec/30_encoding.md R83 to R85, spec/44_transfer_sequencer.md R196); and the placing of one instruction
where the next step runs it. -/
namespace Sys2Proof.Machine

/-- The host resets the block at this step. -/
def State.resetNow (s : State) : Bool :=
  match s.host with
  | .reset :: _ => true
  | _ => false

/-- The host's input of this step, reset aside (log 3): a request enters a free port, waits before an occupied one and is
never queued in the block (spec/30_encoding.md R84). -/
def State.arrive (s : State) : State :=
  match s.host with
  | .idle :: rest => { s with host := rest }
  | .request w :: rest =>
    match s.port with
    | none => { s with port := some w, host := rest }
    | some _ => s
  | _ => s

/-- The refusal of a request whose code is unassigned: `Busy` is checked before the code is decoded
(spec/60_exceptions.md R238, R239). -/
def State.refuseUnassigned (s : State) : State :=
  s.refuse (if s.isIdle then .illegalOp else .busy)

/-- The request at the port, decoded and run (spec/30_encoding.md R83). -/
def State.runRequest (s : State) (w : RequestWord) : Result :=
  match decodeRequest w with
  | .ok i => exec i s
  | .error _ => .next s.refuseUnassigned

/-- The sequencer's turn (spec/44_transfer_sequencer.md R196): the selected step while `BUSY = 1`; an idle or a finished
block does nothing (spec/70_reset_and_hazards.md R260, spec/44_transfer_sequencer.md R210; log 12). -/
def State.runSequencer (s : State) : Result :=
  if s.busy then
    match decodeSelector s.selector with
    | .ok i => exec i s
    | .error _ => .fault .noStepSelected
  else .next s

/-- One step after the host's input. -/
def State.turn (s : State) : Result :=
  match s.port with
  | some w => s.runRequest w
  | none => s.runSequencer

/-- One step: reset first (spec/70_reset_and_hazards.md R261: "at any time"), then the port, then the sequencer. -/
def stepNow (s : State) : Result :=
  if s.resetNow then .next { s.applyReset with host := s.host.drop 1 }
  else s.arrive.turn

/-- The host's list from its first entry that leaves the port and the registers alone. -/
def State.quietHost (s : State) : List HostInput := s.host.dropWhile (· != .idle)

/-- `s` running a session whose registers select the step `seq`, `await`, `last` (spec/30_encoding.md R85), in a
configuration that `SEQ.RUN` admits (spec/44_transfer_sequencer.md R195): image 1 of 2 when `LAST = 1`, image 1 of 3 when
`LAST = 0`, image 0 before the first image is open (log 13). -/
def State.selecting (s : State) (seq : SeqState) (await last : Bool) : State :=
  { s with
    busy := true, done := false, aborted := false, cause := .none
    seq := seq, await := await, off := 0
    img := if seq = .start ∨ seq = .helloSent then 0 else 1
    gen2 := true
    nimg := if last then 2 else 3
    size := #v[8, 0, 0]
    port := none, host := s.quietHost }

/-- `s` with the instruction of a table row placed where the next step runs it (log 13): a request at the port, or the
registers of a running session that select the step. Codes that no register holds leave `s`. -/
def place (s : State) (nbits w : Nat) : State :=
  if nbits ≤ 8 then
    match seqOfCode (w / 4) with
    | some seq => s.selecting seq (w / 2 % 2 == 1) (w % 2 == 1)
    | none => s
  else { s with port := some (BitVec.ofNat 72 w), host := s.host.dropWhile (· == .reset) }

end Sys2Proof.Machine
end

