-- ==== Sys2Proof/Machine/Step.lean ====
section
/-! DEFINITION. One step of the machine, over the choices of `Machine/Fetch.lean`, and the host's way to make the next step
run a given instruction. -/
namespace Sys2Proof.Machine

/-- One step: reset first, then the request at the port, then the sequencer (spec/30_encoding.md R84,
spec/44_transfer_sequencer.md R196, spec/70_reset_and_hazards.md R260; log 3). -/
def step (s : State) : Host.Outcome State Fault Refusal := stepNow s

/-- `s` with the instruction of a table row placed where the next step runs it (log 13). -/
def State.withFetchWord (s : State) (nbits w : Nat) : State := place s nbits w

end Sys2Proof.Machine
end

