-- ==== Sys2Proof/Machine/Pseudo.lean ====
section
/-! DEFINITION. The pseudo-operations of spec/30_encoding.md R96 as the fixed lists of requests they abbreviate, and the
run of a program, a list of requests (R95). -/
namespace Sys2Proof.Machine

/-- The expansion of a pseudo-operation (spec/30_encoding.md R96); `HELLO.MANUAL` names the parameter `GEN_OFF`. -/
def expand (c : Params) : Pseudo → List Instr
  | .crc16 n => [.crcInit, .crcBuf n, .crcFinal]
  | .sendFramed => [.frmEnc, .txSend]
  | .sendUnframed => [.frmRaw, .txSend]
  | .awaitAck k => [.ackRecv, .ackCheck k]
  | .cmdBytes bs => .cmdClr :: bs.map .cmdPut
  | .frmBytes bs => .frmClr :: bs.map .frmPut
  | .ackBytes bs => .ackClr :: bs.map .ackPut
  | .helloManual g =>
    if g then [.cmdLoad 0, .cmdInc2 (BitVec.ofNat 32 (genOff c)), .cmdCrcpatch] else [.cmdLoad 0, .cmdCrcpatch]

/-- `s` with the request of `i` presented at its port; a step of the sequencer has no request. -/
def State.present (s : State) (i : Instr) : State :=
  match encode i with
  | .request w => { s with port := some w }
  | .selector _ => s

/-- A program (spec/30_encoding.md R95): its requests issued one after another, each accepted only after the previous one
has finished, which is when the port is free. A request whose transport call does not return (`TX.SEND`, `ACK.RECV`) stands
at the port, and the program stands there with it. -/
def execAll : List Instr → State → Result
  | [], s => .next s
  | i :: rest, s =>
    if s.port = none then
      match exec i (s.present i) with
      | .next t => execAll rest t
      | .fault f => .fault f
      | .refused r => .refused r
    else .next s

end Sys2Proof.Machine
end

