-- ==== Sys2Proof/Safety.lean ====
section
/-! DEFINITION. What the claims are stated in: the invariants of spec/10_state.md R42, the two logs and the wire of R36, the
events of a whole session (spec/44_transfer_sequencer.md R202, R209), the states right after reset in any surroundings, and
what an operation's encoding is. -/
namespace Sys2Proof.Machine

/-! ### Encoding -/

/-- The operation `op` with operands assembled by `f` from `ARG0` and `ARG1`, whatever their unused bits hold
(spec/30_encoding.md R80 to R82). -/
def RequestIs (op : Byte) (f : Word32 → Word32 → Instr) : Prop :=
  ∀ arg1 arg0 : Word32, decodeRequest (requestWord op arg1 arg0) = .ok (f arg0 arg1)

/-- The operations of the port, as against the sequencer's steps. -/
def isRequest (i : Instr) : Bool :=
  match encode i with
  | .request _ => true
  | .selector _ => false

/-- The two reads that the port takes in every state (spec/30_encoding.md R84). -/
def isRead : Instr → Bool
  | .regRd _ => true
  | .bufRd _ _ => true
  | _ => false

/-! ### The invariant -/

/-- The invariants of spec/10_state.md R42, and below them those of other rules that a proof of R42 needs. -/
structure Inv (s : State) : Prop where
  cmdFits : s.cmd.length ≤ cmdMax s.cfg
  frmFits : s.frm.length ≤ frmMax s.cfg
  ackFits : s.ack.length ≤ ackBufLen s.cfg
  doneIff : s.done = true ↔ s.seq = .done
  abortedIff : s.aborted = true ↔ s.seq = .aborted
  busyRuns : s.busy = true → s.seq ≠ .done ∧ s.seq ≠ .aborted
  awaitBusy : s.await = true → s.busy = true
  awaitSeq : s.await = true →
    s.seq = .start ∨ s.seq = .helloSent ∨ s.seq = .imageStreaming ∨ s.seq = .imageAcked
  imgBelow : s.busy = true → s.img.val < s.nimg.toNat
  offBelow : s.seq = .imageStreaming → s.off.toNat ≤ s.size[s.img].toNat
  /-- `CAUSE` is 0 while no abort has happened, and not 0 after one (spec/10_state.md R32). -/
  causeIff : s.cause = .none ↔ s.seq ≠ .aborted
  /-- Outside a session the block is idle or finished (spec/44_transfer_sequencer.md R191, R206, spec/60_exceptions.md R240). -/
  restSeq : s.busy = false → s.seq = .start ∨ s.seq = .done ∨ s.seq = .aborted
  /-- A session runs in an admitted configuration (spec/44_transfer_sequencer.md R191, R195). -/
  configRuns : s.busy = true → s.configOk = true
  /-- While `SEQ` is `Start` or `HelloSent`, `IMG` is 0 (spec/10_state.md R28). -/
  imgFirst : s.seq = .start ∨ s.seq = .helloSent → s.img = 0
  /-- Until the final chunk is sent, `OFF` counts whole chunks (spec/44_transfer_sequencer.md R203). -/
  offWhole : s.seq = .imageStreaming → s.await = false → s.off.toNat % chunk = 0
  /-- The final chunk ends at the image's end (spec/44_transfer_sequencer.md R203). -/
  offEnd : s.seq = .imageStreaming → s.await = true → s.off.toNat = s.size[s.img].toNat
  /-- An OpenImage awaited in `ImageAcked` is that of a next image (spec/44_transfer_sequencer.md R199). -/
  nextOpen : s.seq = .imageAcked → s.await = true → s.img.val + 1 < s.nimg.toNat
  /-- While an acknowledgment is awaited `EXPECT` holds its code (spec/10_state.md R30). -/
  expectCode : s.await = true →
    s.expect = if s.seq = .start then 0x02 else if s.seq = .imageStreaming then 0x28 else 0x26
  /-- Close is sent after the last image (spec/44_transfer_sequencer.md R205). -/
  closeLast : s.seq = .closing → s.img.val + 1 = s.nimg.toNat

/-! ### After reset, in any surroundings -/

/-- The block right after reset (spec/10_state.md R40), with any parameters, any requests to come, any answers of the
transport and any images. -/
def AfterReset (s : State) : Prop :=
  s = { State.reset with cfg := s.cfg, host := s.host, rx := s.rx, tx := s.tx, images := s.images }

/-- No reset is among the host's coming inputs. -/
def NoReset (s : State) : Prop := ∀ h ∈ s.host, h ≠ .reset

/-! ### The logs and the wire -/

/-- `TXLOG`: the TX events of the history (spec/10_state.md R36). -/
def txLog (s : State) : List (List Byte × TxResult) :=
  s.history.filterMap fun e =>
    match e with
    | .tx b r => some (b, r)
    | .rx _ => none

/-- `RXLOG`: the RX bursts of the history (spec/10_state.md R36). -/
def rxLog (s : State) : List RxResult :=
  s.history.filterMap fun e =>
    match e with
    | .tx _ _ => none
    | .rx r => some r

/-- `w` may be what the wire has carried: the payloads in log order (spec/20_memory.md R65 (e)), of a failed write any
prefix (R57). -/
def IsWire : List (List Byte × TxResult) → List Byte → Prop
  | [], w => w = []
  | (b, .ok) :: rest, w => ∃ v, w = b ++ v ∧ IsWire rest v
  | (b, .failed) :: rest, w => ∃ p v, p <+: b ∧ w = p ++ v ∧ IsWire rest v

/-- The host's contract on the images (spec/20_memory.md R60): `len(IMAGE[i]) = SIZE[i]` for `i < NIMG`. -/
def HostContract (s : State) : Prop :=
  ∀ p : Pos, p.val < s.nimg.toNat → s.images[p].length = s.size[p].toNat

/-! ### What a sequencer step does with the transport -/

/-- Abort entry, field by field (spec/60_exceptions.md R240). -/
def abortedWith (s : State) (c : Cause) : State :=
  { s with cause := c, seq := .aborted, aborted := true, busy := false, await := false }

/-- The step `i` in `s` hands `w` to the transport after the assignments of `ready`: on success it goes on with `after`, on
failure it aborts with the assignments of `ready` kept (spec/60_exceptions.md R233). -/
def Writes (i : Instr) (s ready : State) (w : List Byte) (after : State → State) : Prop :=
  (∀ rest, s.tx = .ok :: rest →
    exec i s = .next (after { ready with tx := rest, history := s.history ++ [.tx w .ok] })) ∧
  (∀ rest, s.tx = .failed :: rest →
    exec i s = .next (abortedWith { ready with tx := rest, history := s.history ++ [.tx w .failed] } .transportTx))

/-- `s` with the command `c` built and its wire form `w` in `FRM` (spec/41_frame_codec.md R146). -/
def withCommand (s : State) (c w : List Byte) : State :=
  { s with cmd := c, crc := crc16 0xFFFF (c.take (c.length - 2)), frm := w }

/-- The step `i` in `s` awaits the code `k` (spec/44_transfer_sequencer.md R207): it aborts on a failed read, else
validates the one burst, records the verdict, and goes on with `after` unless the verdict is an error and `ACK_FATAL = 1`. -/
def Awaits (i : Instr) (s : State) (k : Byte) (after : State → State) : Prop :=
  (∀ rest, s.rx = .error :: rest →
    exec i s = .next (abortedWith { s with rx := rest, history := s.history ++ [.rx .error] } .transportRx)) ∧
  (∀ r rest, s.rx = .burst r :: rest → r.length ≤ ackBufLen s.cfg →
    let t := { s with
      rx := rest, history := s.history ++ [.rx (.burst r)], ack := r
      lastack := ⟨(validate r k).1, (validate r k).2, k⟩
      ackflags := s.ackflags ||| ackKindFlag (validate r k).1 }
    ((validate r k).1 = .ok ∨ s.cfg.ackFatal = false → exec i s = .next (after t)) ∧
    ((validate r k).1 ≠ .ok ∧ s.cfg.ackFatal = true → exec i s = .next (abortedWith t .ackFatal)))

/-! ### A whole session -/

/-- `open_cmd(p, SIZE[p])`, empty where it has no value. -/
def openBytes (s : State) (p : Pos) : List Byte := (openCmd s.cfg p (s.sizeLo p)).getD []

/-- `trailer_cmd(p, SIZE[p])`, empty where it has no value. -/
def trailerBytes (s : State) (p : Pos) : List Byte := (trailerCmd s.cfg p (s.sizeLo p)).getD []

/-- `q = S div 262144` for the image at `p` (spec/44_transfer_sequencer.md R202). -/
def fullChunks (s : State) (p : Pos) : Nat := (s.sizeLo p).toNat / chunk

/-- The first `k` full data events of the image at `p` (spec/44_transfer_sequencer.md R202). -/
def chunkEvents (s : State) (p : Pos) (k : Nat) : List (List Byte) :=
  (List.range k).map fun j => s.imgRead p (chunk * j) chunk

/-- The final data event: `r` bytes, `r - 8` for the first image, possibly none (spec/44_transfer_sequencer.md R202). -/
def finalEvent (s : State) (p : Pos) : List Byte :=
  s.imgRead p (chunk * fullChunks s p)
    ((s.sizeLo p).toNat % chunk - if p = 0 then trailerAdj else 0)

/-- The `q + 1` data events of the image at `p` (spec/44_transfer_sequencer.md R202). -/
def dataEvents (s : State) (p : Pos) : List (List Byte) :=
  chunkEvents s p (fullChunks s p) ++ [finalEvent s p]

/-- One event of a session without failures: a payload that the transport accepted, or a burst that it returned. -/
inductive SessionEvent where
  | sent (payload : List Byte)
  | read
deriving DecidableEq, Repr

/-- The payloads of the `sent` events. -/
def payloads (es : List SessionEvent) : List (List Byte) :=
  es.filterMap fun e =>
    match e with
    | .sent b => some b
    | .read => none

/-- Whether an event of the history is one of a session without failures. -/
def Event.is : Event → SessionEvent → Prop
  | .tx b .ok, .sent b' => b = b'
  | .rx (.burst _), .read => True
  | _, _ => False

/-- OpenImage framed and its acknowledgment, SizeTrailer raw, the data and its acknowledgment
(spec/44_transfer_sequencer.md R209). -/
def imageEvents (s : State) (p : Pos) : List SessionEvent :=
  [.sent (encodeFrame (openBytes s p)), .read, .sent (trailerBytes s p)] ++ (dataEvents s p).map .sent ++ [.read]

/-- The events of the images at the positions below `n`. -/
def imagesEvents (s : State) (n : Nat) : List SessionEvent :=
  ((List.finRange 3).filter (·.val < n)).flatMap (imageEvents s)

/-- The Hello frame of the session. -/
def helloFrame (s : State) : List Byte := encodeFrame (helloCmd s.cfg s.gen2)

/-- The events of a run that reaches `Done` (spec/44_transfer_sequencer.md R209). -/
def sessionEvents (s : State) : List SessionEvent :=
  [.sent (helloFrame s), .read] ++ imagesEvents s s.nimg.toNat ++ [.sent (encodeFrame (closeCmd s.cfg))]

/-- The events that a session has had when the registers stand as they do in `s` (spec/44_transfer_sequencer.md R209). -/
def eventsSoFar (s : State) : List SessionEvent :=
  match s.seq with
  | .start => if s.await then [.sent (helloFrame s)] else []
  | .helloSent =>
    [.sent (helloFrame s), .read] ++ if s.await then [.sent (encodeFrame (openBytes s 0))] else []
  | .imageOpen =>
    [.sent (helloFrame s), .read] ++ imagesEvents s s.img.val ++ [.sent (encodeFrame (openBytes s s.img)), .read]
  | .imageStreaming =>
    [.sent (helloFrame s), .read] ++ imagesEvents s s.img.val ++
      [.sent (encodeFrame (openBytes s s.img)), .read, .sent (trailerBytes s s.img)] ++
      (if s.await then dataEvents s s.img else chunkEvents s s.img (s.off.toNat / chunk)).map .sent
  | .imageAcked =>
    [.sent (helloFrame s), .read] ++ imagesEvents s (s.img.val + 1) ++
      if s.await then
        match s.nextImg with
        | some j => [.sent (encodeFrame (openBytes s j))]
        | none => []
      else []
  | .closing => sessionEvents s
  | .done => sessionEvents s
  | .aborted => []

/-- What the selected step hands to the transport: the frame or the raw command of the sending steps, the next data event
of `S.CHUNK` (spec/44_transfer_sequencer.md R197, R199, R201, R203, R205); nothing for the other steps. -/
def nextPayload (s : State) : Option (List Byte) :=
  if s.await then none
  else
    match s.seq with
    | .start => some (helloFrame s)
    | .helloSent => some (encodeFrame (openBytes s 0))
    | .imageOpen => some (trailerBytes s s.img)
    | .imageStreaming => (dataEvents s s.img)[s.off.toNat / chunk]?
    | .imageAcked =>
      if s.last then some (encodeFrame (closeCmd s.cfg)) else s.nextImg.map fun j => encodeFrame (openBytes s j)
    | .closing => none
    | .done => none
    | .aborted => none

/-- The environment of a session that is never turned away: every write succeeds, every read returns a burst of at most
`ACK_BUF_LEN` bytes, and there are enough of both (spec/70_reset_and_hazards.md R267). -/
structure Cooperative (s : State) : Prop where
  writes : ∀ r ∈ s.tx, r = .ok
  reads : ∀ r ∈ s.rx, ∃ b, r = .burst b ∧ b.length ≤ ackBufLen s.cfg
  enoughWrites : (payloads (sessionEvents s)).length ≤ s.tx.length
  enoughReads : 1 + 2 * s.nimg.toNat ≤ s.rx.length

/-- The host's inputs that issue a program (spec/30_encoding.md R95): its requests in order. -/
def issue (p : List Instr) : List HostInput :=
  p.filterMap fun i =>
    match encode i with
    | .request w => some (.request w)
    | .selector _ => none

/-- `k` steps of the machine, stopping at the first fault or refusal. -/
def runFor (k : Nat) (s : State) : Result := Sys2Proof.core.run k s

/-! ### What the acknowledgments may influence -/

/-- Two answers of the transport that differ only in what a burst holds. -/
def SameShape (N : Nat) : RxResult → RxResult → Prop
  | .error, .error => True
  | .burst a, .burst b => a.length ≤ N ∧ b.length ≤ N
  | _, _ => False

/-- `s` and `t` differ at most in what the device answered and in what records it: `ACK`, `ACKFLAGS`, `LASTACK`, `RES`,
`OPERR`, the RX entries of the history (spec/70_reset_and_hazards.md R269). -/
structure SameButAnswers (s t : State) : Prop where
  block : { s with ack := t.ack, ackflags := t.ackflags, lastack := t.lastack, res := t.res, operr := t.operr,
                   history := t.history, rx := t.rx } = t
  log : txLog s = txLog t
  answers : List.Forall₂ (SameShape (ackBufLen s.cfg)) s.rx t.rx

/-- `s` and `t` differ at most in what earlier operations left in the units: `CRC`, `CMD`, `FRM`, `ACK`, `RES`, `OPERR`,
`ACKFLAGS`, `LASTACK` (spec/70_reset_and_hazards.md R263). -/
def SameButLeftovers (s t : State) : Prop :=
  { s with crc := t.crc, cmd := t.cmd, frm := t.frm, ack := t.ack, res := t.res, operr := t.operr
           ackflags := t.ackflags, lastack := t.lastack } = t

end Sys2Proof.Machine
end

