-- ==== Sys2Proof/WellFormed.lean ====
section
/-! DEFINITION. Static legality of an instruction's operands: the ranges that the operation rules check whatever the state
holds (spec/opcode_table.json "legal", spec/42_command_builder.md R152, R165, R166, spec/44_transfer_sequencer.md R192 to
R194). An ill-formed request still decodes (spec/30_encoding.md R82); an idle block refuses it with `OperandRange`. -/
namespace Sys2Proof

/-- The template ids of spec/42_command_builder.md R152. -/
def templateIdOk (t : Word32) : Bool := t.toNat ≤ 7

/-- The positions of spec/42_command_builder.md R165 and R166. -/
def positionOk (p : Word32) : Bool := p.toNat ≤ 2

/-- At position 0 the size is at least 8 (spec/42_command_builder.md R158). -/
def sizeOk (p size : Word32) : Bool := p.toNat != 0 || 8 ≤ size.toNat

/-- The register numbers of spec/10_state.md R37. -/
def readableRegOk (r : Word32) : Bool :=
  r.toNat ≤ 0x0C || (0x10 ≤ r.toNat && r.toNat ≤ 0x17)

/-- The register numbers that `REG.WR` writes (spec/44_transfer_sequencer.md R193). -/
def writableRegOk (r : Word32) : Bool := 0x10 ≤ r.toNat && r.toNat ≤ 0x17

/-- The space numbers of spec/44_transfer_sequencer.md R192. -/
def spaceOk (sp : Word32) : Bool := sp.toNat ≤ 2

/-- Every operand lies in the range that its rule gives it in every state. -/
def Instr.wellFormed : Instr → Bool
  | .cmdLoad t => templateIdOk t
  | .cmdOpen p size => positionOk p && sizeOk p size
  | .cmdTrailer p size => positionOk p && sizeOk p size
  | .regWr r _ => writableRegOk r
  | .regRd r => readableRegOk r
  | .bufRd sp _ => spaceOk sp
  | .crcInit => true
  | .crcLoad _ => true
  | .crcStep _ => true
  | .crcBuf _ => true
  | .crcFinal => true
  | .frmEsc => true
  | .frmEnc => true
  | .frmRaw => true
  | .frmUnesc => true
  | .frmDec => true
  | .txSend => true
  | .frmClr => true
  | .frmPut _ => true
  | .cmdClr => true
  | .cmdPut _ => true
  | .cmdPut32 _ _ => true
  | .cmdInc2 _ => true
  | .cmdCrcpatch => true
  | .cmdHello _ => true
  | .cmdClose => true
  | .ackClr => true
  | .ackPut _ => true
  | .ackRecv => true
  | .ackCheck _ => true
  | .seqRun => true
  | .sHelloTx => true
  | .sHelloAck => true
  | .sOpenTxFirst => true
  | .sOpenTxNext => true
  | .sOpenAckFirst => true
  | .sOpenAckNext => true
  | .sTrailerTx => true
  | .sChunk => true
  | .sDataAck => true
  | .sCloseTx => true
  | .sFinish => true

end Sys2Proof
end

