-- ==== Sys2Proof/Certificates/Slice0/Obligations.lean ====
section
/-! DEFINITION. The statements for the provers. Each docstring names the rule of spec/ that it formalises. -/

open Sys2Proof Sys2Proof.Machine

/-! ### Encodings -/

/-- Decoding the code of any instruction gives it back, every operand at every value (spec/30_encoding.md R80 to R85). -/
def Obligations.DecodeInvertsEncode : Prop :=
  ∀ i : Instr, decode (encode i) = .ok i

/-- The operation map of spec/30_encoding.md R81: 31 codes, operands as listed, unused bits whatever they are,
no other code assigned. -/
def Obligations.OperationMap : Prop :=
  RequestIs 0x00 (fun _ _ => .crcInit) ∧ RequestIs 0x01 (fun a _ => .crcLoad (a.extractLsb' 0 16)) ∧
  RequestIs 0x02 (fun a _ => .crcStep (a.extractLsb' 0 8)) ∧ RequestIs 0x03 (fun a _ => .crcBuf a) ∧
  RequestIs 0x04 (fun _ _ => .crcFinal) ∧
  RequestIs 0x10 (fun _ _ => .frmEsc) ∧ RequestIs 0x11 (fun _ _ => .frmEnc) ∧ RequestIs 0x12 (fun _ _ => .frmRaw) ∧
  RequestIs 0x13 (fun _ _ => .frmUnesc) ∧ RequestIs 0x14 (fun _ _ => .frmDec) ∧ RequestIs 0x15 (fun _ _ => .txSend) ∧
  RequestIs 0x16 (fun _ _ => .frmClr) ∧ RequestIs 0x17 (fun a _ => .frmPut (a.extractLsb' 0 8)) ∧
  RequestIs 0x20 (fun _ _ => .cmdClr) ∧ RequestIs 0x21 (fun a _ => .cmdPut (a.extractLsb' 0 8)) ∧
  RequestIs 0x22 (fun a _ => .cmdLoad a) ∧ RequestIs 0x23 (fun a b => .cmdPut32 a b) ∧
  RequestIs 0x24 (fun a _ => .cmdInc2 a) ∧ RequestIs 0x25 (fun _ _ => .cmdCrcpatch) ∧
  RequestIs 0x28 (fun a _ => .cmdHello (a.getLsbD 0)) ∧ RequestIs 0x29 (fun a b => .cmdOpen a b) ∧
  RequestIs 0x2A (fun a b => .cmdTrailer a b) ∧ RequestIs 0x2B (fun _ _ => .cmdClose) ∧
  RequestIs 0x30 (fun _ _ => .ackClr) ∧ RequestIs 0x31 (fun a _ => .ackPut (a.extractLsb' 0 8)) ∧
  RequestIs 0x32 (fun _ _ => .ackRecv) ∧ RequestIs 0x33 (fun a _ => .ackCheck (a.extractLsb' 0 8)) ∧
  RequestIs 0x40 (fun _ _ => .seqRun) ∧ RequestIs 0x50 (fun a b => .regWr a b) ∧
  RequestIs 0x51 (fun a _ => .regRd a) ∧ RequestIs 0x52 (fun a b => .bufRd a b) ∧
  ∀ w i, decodeRequest w = .ok i →
    requestOp w ∈ [0x00, 0x01, 0x02, 0x03, 0x04, 0x10, 0x11, 0x12, 0x13, 0x14, 0x15, 0x16, 0x17, 0x20, 0x21, 0x22, 0x23,
      0x24, 0x25, 0x28, 0x29, 0x2A, 0x2B, 0x30, 0x31, 0x32, 0x33, 0x40, 0x50, 0x51, (0x52 : Byte)]

/-- Decoding is total: the unassigned codes are exactly those of spec/30_encoding.md R83, and the idle block refuses a
request that has one with `IllegalOp` and no other change. -/
def Obligations.UnassignedCodesAreRefused : Prop :=
  (∀ w : RequestWord,
    let op := (requestOp w).toNat
    (0x05 ≤ op ∧ op ≤ 0x0F ∨ 0x18 ≤ op ∧ op ≤ 0x1F ∨ op = 0x26 ∨ op = 0x27 ∨ 0x2C ≤ op ∧ op ≤ 0x2F ∨
      0x34 ≤ op ∧ op ≤ 0x3F ∨ 0x41 ≤ op ∧ op ≤ 0x4F ∨ 0x53 ≤ op) ↔ ∀ i, decodeRequest w ≠ .ok i) ∧
  (∀ (s : State) (w : RequestWord) (rest : List HostInput), s.isIdle = true → s.port = none →
    s.host = .request w :: rest → (∀ i, decodeRequest w ≠ .ok i) →
    step s = .next { s with host := rest, operr := .illegalOp })

/-- The step table of spec/30_encoding.md R85: eleven rows, every other selector value has no step, and the
selector is read off the registers while `BUSY = 1`. -/
def Obligations.SelectorTable : Prop :=
  (∀ last, decodeSelector (selectorWord 0 false last) = .ok .sHelloTx) ∧
  (∀ last, decodeSelector (selectorWord 0 true last) = .ok .sHelloAck) ∧
  (∀ last, decodeSelector (selectorWord 1 false last) = .ok .sOpenTxFirst) ∧
  (∀ last, decodeSelector (selectorWord 1 true last) = .ok .sOpenAckFirst) ∧
  (∀ last, decodeSelector (selectorWord 2 false last) = .ok .sTrailerTx) ∧
  (∀ last, decodeSelector (selectorWord 3 false last) = .ok .sChunk) ∧
  (∀ last, decodeSelector (selectorWord 3 true last) = .ok .sDataAck) ∧
  decodeSelector (selectorWord 4 false false) = .ok .sOpenTxNext ∧
  (∀ last, decodeSelector (selectorWord 4 true last) = .ok .sOpenAckNext) ∧
  decodeSelector (selectorWord 4 false true) = .ok .sCloseTx ∧
  (∀ last, decodeSelector (selectorWord 5 false last) = .ok .sFinish) ∧
  (∀ (seq : BitVec 4) (await last : Bool),
    (seq = 2 ∧ await = true ∨ seq = 5 ∧ await = true ∨ 6 ≤ seq.toNat) →
    decodeSelector (selectorWord seq await last) = .error (.noStep (selectorWord seq await last))) ∧
  ∀ s : State,
    (s.busy = false → s.selected = none) ∧
    (s.busy = true → s.selected =
      (decodeSelector (selectorWord (seqCode s.seq) s.await (decide (s.img.val + 1 = s.nimg.toNat)))).toOption)

/-- Words written out in spec/95_test_vectors.md section 8 decode to the requests printed beside them. -/
def Obligations.PrintedWordsDecode : Prop :=
  decodeRequest 0x020000000000000031 = .ok (.crcStep 0x31) ∧
  decodeRequest 0x110000000000000000 = .ok .frmEnc ∧
  decodeRequest 0x23000493D800000002 = .ok (.cmdPut32 2 299992) ∧
  decodeRequest 0x29000493E000000000 = .ok (.cmdOpen 0 300000) ∧
  decodeRequest 0x330000000000000026 = .ok (.ackCheck 0x26) ∧
  decodeRequest 0x400000000000000000 = .ok .seqRun ∧
  decodeRequest 0x50000493E000000012 = .ok (.regWr 0x12 300000) ∧
  decodeRequest 0x520000000300000001 = .ok (.bufRd 1 3) ∧
  decodeSelector 0b010001 = .ok .sCloseTx

/-! ### A step -/

/-- A step runs the request at the port: one that the host presents to a free port, or one that stands there already,
whether the host does nothing, has nothing more, or has the next request waiting (spec/30_encoding.md R84; log 3). -/
def Obligations.StepRunsTheRequest : Prop :=
  ∀ (s : State) (w : RequestWord) (i : Instr) (rest : List HostInput), decodeRequest w = .ok i →
    (s.port = none → s.host = .request w :: rest → step s = exec i { s with port := some w, host := rest }) ∧
    (s.port = some w → s.host = [] → step s = exec i s) ∧
    (s.port = some w → s.host = .idle :: rest → step s = exec i { s with host := rest }) ∧
    (∀ v, s.port = some w → s.host = .request v :: rest → step s = exec i s)

/-- With no request at the port and none arriving, a step runs the step that the registers select while `BUSY = 1`, and
does nothing while `BUSY = 0` (spec/44_transfer_sequencer.md R196; logs 3 and 12). -/
def Obligations.StepRunsTheSelectedStep : Prop :=
  ∀ (s : State) (rest : List HostInput), s.port = none →
    (∀ i, s.busy = true → decodeSelector s.selector = .ok i →
      (s.host = [] → step s = exec i s) ∧ (s.host = .idle :: rest → step s = exec i { s with host := rest })) ∧
    (s.busy = false →
      (s.host = [] → step s = .next s) ∧ (s.host = .idle :: rest → step s = .next { s with host := rest }))

/-- While `BUSY = 1`, and in `Done` and `Aborted`, every request but `REG.RD` and `BUF.RD`, assigned or not, is refused
with `Busy` and no other effect (spec/30_encoding.md R84 (b), spec/60_exceptions.md R238). -/
def Obligations.BusyBlockRefusesAllButReads : Prop :=
  ∀ s : State, s.busy = true ∨ s.seq = .done ∨ s.seq = .aborted →
    (∀ i, isRequest i = true → isRead i = false → exec i s = .next { s with operr := .busy, port := none }) ∧
    (∀ w rest, (∀ i, decodeRequest w ≠ .ok i) → s.port = none → s.host = .request w :: rest →
      step s = .next { s with operr := .busy, host := rest })

/-- Reset at any time leaves every register at its reset value, the buffers and the logs empty, and the template ROM and the
other parameters as they were (spec/10_state.md R40). -/
def Obligations.ResetFromAnyState : Prop :=
  ∀ (s : State) (rest : List HostInput), s.host = .reset :: rest →
    ∃ t, step s = .next t ∧
      t.busy = false ∧ t.done = false ∧ t.aborted = false ∧ t.await = false ∧ t.seq = .start ∧ t.img = 0 ∧
      t.cause = .none ∧ t.operr = .none ∧ t.ackflags = 0 ∧ t.lastack = ⟨.ok, 0, 0⟩ ∧ t.expect = 0 ∧ t.off = 0 ∧
      t.crc = 0xFFFF ∧ t.res = 0 ∧ t.cmd.length = 0 ∧ t.frm.length = 0 ∧ t.ack.length = 0 ∧
      t.gen2 = false ∧ t.nimg = 2 ∧ t.size = #v[0, 0, 0] ∧ t.history = [] ∧ t.cfg = s.cfg

/-! ### CRC Engine -/

/-- The five operations of the CRC Engine on the idle block (spec/40_crc_engine.md R117 to R121). -/
def Obligations.CrcOperations : Prop :=
  RequestIs 0x00 (fun _ _ => .crcInit) ∧ RequestIs 0x01 (fun a _ => .crcLoad (a.extractLsb' 0 16)) ∧
  RequestIs 0x02 (fun a _ => .crcStep (a.extractLsb' 0 8)) ∧ RequestIs 0x03 (fun a _ => .crcBuf a) ∧
  RequestIs 0x04 (fun _ _ => .crcFinal) ∧
  ∀ s : State, s.isIdle = true →
    exec .crcInit s = .next { s with crc := 0xFFFF, operr := .none, port := none } ∧
    (∀ v, exec (.crcLoad v) s = .next { s with crc := v, operr := .none, port := none }) ∧
    (∀ b, exec (.crcStep b) s = .next
      { s with crc := (s.crc >>> 8) ^^^ crcTable (s.crc.setWidth 8 ^^^ b), operr := .none, port := none }) ∧
    (∀ n, exec (.crcBuf n) s =
      if s.cmd.length < n.toNat then .next { s with operr := .operandRange, port := none }
      else .next { s with crc := crc16 s.crc (s.cmd.take n.toNat), operr := .none, port := none }) ∧
    exec .crcFinal s = .next { s with res := (~~~ s.crc).setWidth 32, operr := .none, port := none }

/-- The table-driven step is eight bit-serial steps (spec/40_crc_engine.md R115). -/
def Obligations.CrcStepIsEightBitSteps : Prop :=
  ∀ (c : Word16) (b : Byte), crcByte c b = crcBits8 (c ^^^ b.setWidth 16)

/-- Data followed by its own complemented little-endian CRC leaves the accumulator at `0xF0B8` (spec/40_crc_engine.md R124). -/
def Obligations.SealedDataLeavesTheResidue : Prop :=
  ∀ d : List Byte, crc16 0xFFFF (d ++ le16 (fcs d)) = 0xF0B8

/-! ### Frame Codec -/

/-- `escape` and `unescape`, `encode` and `decode` are inverse to each other (spec/41_frame_codec.md R136). -/
def Obligations.UnescapeInvertsEscape : Prop :=
  (∀ b, unescape (escape b) = .ok b) ∧ (∀ b, decodeFrame (encodeFrame b) = .ok b) ∧
  (∀ f b, unescape f = .ok b → escape b = f)

/-- The escape pairs, byte by byte, the two delimiters around them, and what follows: `0x7E` stands at the two ends of a frame
and nowhere else, and in escaped bytes every `0x7D` is followed by `0x5E` or `0x5D` (spec/41_frame_codec.md R130, R131, R133). -/
def Obligations.DelimiterOnlyAtTheEnds : Prop :=
  escape [] = [] ∧ escape [0x7E] = [0x7D, 0x5E] ∧ escape [0x7D] = [0x7D, 0x5D] ∧
  (∀ x : Byte, x ≠ 0x7E → x ≠ 0x7D → escape [x] = [x]) ∧
  (∀ a b : List Byte, escape (a ++ b) = escape a ++ escape b) ∧
  ∀ b : List Byte,
    encodeFrame b = [0x7E] ++ escape b ++ [0x7E] ∧
    (∀ i : Nat, (encodeFrame b)[i]? = some (0x7E : Byte) ↔ i = 0 ∨ i = (encodeFrame b).length - 1) ∧
    (0x7E : Byte) ∉ escape b ∧
    (∀ i : Nat, (escape b)[i]? = some (0x7D : Byte) →
      (escape b)[i + 1]? = some (0x5E : Byte) ∨ (escape b)[i + 1]? = some (0x5D : Byte))

/-- The lengths of escaped and encoded bytes; a command that fits `CMD` fits `FRM` framed (spec/41_frame_codec.md R132). -/
def Obligations.EscapedLength : Prop :=
  ∀ b : List Byte,
    (escape b).length = b.length + (b.filter fun x => x == 0x7E || x == 0x7D).length ∧
    (encodeFrame b).length = b.length + (b.filter fun x => x == 0x7E || x == 0x7D).length + 2 ∧
    (encodeFrame b).length ≤ 2 * b.length + 2 ∧
    (∀ c : Params, b.length ≤ cmdMax c → (encodeFrame b).length ≤ frmMax c)

/-- `FRM.ESC`, `FRM.ENC`, `FRM.RAW`, `FRM.CLR`, `FRM.PUT` on the idle block (spec/41_frame_codec.md R138, R140, R141, R144,
R145). -/
def Obligations.FrameOperationsFillFrm : Prop :=
  RequestIs 0x10 (fun _ _ => .frmEsc) ∧ RequestIs 0x11 (fun _ _ => .frmEnc) ∧ RequestIs 0x12 (fun _ _ => .frmRaw) ∧
  RequestIs 0x16 (fun _ _ => .frmClr) ∧ RequestIs 0x17 (fun a _ => .frmPut (a.extractLsb' 0 8)) ∧
  ∀ s : State, s.isIdle = true →
    exec .frmEsc s = .next { s with frm := escape s.cmd, operr := .none, port := none } ∧
    exec .frmEnc s = .next { s with frm := [0x7E] ++ escape s.cmd ++ [0x7E], operr := .none, port := none } ∧
    exec .frmRaw s = .next { s with frm := s.cmd, operr := .none, port := none } ∧
    exec .frmClr s = .next { s with frm := [], operr := .none, port := none } ∧
    (∀ b, exec (.frmPut b) s =
      if s.frm.length = frmMax s.cfg then .next { s with operr := .bufferOverflow, port := none }
      else .next { s with frm := s.frm ++ [b], operr := .none, port := none })

/-- The decoder's equations with the error of each malformed input (spec/41_frame_codec.md R134, R135), and `FRM.UNESC` and
`FRM.DEC` on the idle block: the decoded bytes in `CMD`, or the decoder's error, or `BufferOverflow` (R142, R143). -/
def Obligations.FrameOperationsDecode : Prop :=
  RequestIs 0x13 (fun _ _ => .frmUnesc) ∧ RequestIs 0x14 (fun _ _ => .frmDec) ∧
  unescape [] = .ok [] ∧
  (∀ t, unescape (0x7D :: 0x5E :: t) = (unescape t).map (0x7E :: ·)) ∧
  (∀ t, unescape (0x7D :: 0x5D :: t) = (unescape t).map (0x7D :: ·)) ∧
  (∀ y t, y ≠ 0x5E → y ≠ 0x5D → unescape (0x7D :: y :: t) = .error .decBadEscape) ∧
  unescape [0x7D] = .error .decTruncatedEscape ∧
  (∀ t, unescape (0x7E :: t) = .error .decBareDelimiter) ∧
  (∀ x t, x ≠ 0x7E → x ≠ 0x7D → unescape (x :: t) = (unescape t).map (x :: ·)) ∧
  (∀ f : List Byte, f.length < 2 ∨ f[0]? ≠ some (0x7E : Byte) ∨ f[f.length - 1]? ≠ some (0x7E : Byte) →
    decodeFrame f = .error .decMissingDelimiter) ∧
  (∀ b, decodeFrame ([0x7E] ++ b ++ [0x7E]) = unescape b) ∧
  ∀ s : State, s.isIdle = true →
    (∀ e, unescape s.frm = .error e → exec .frmUnesc s = .next { s with operr := e, port := none }) ∧
    (∀ r, unescape s.frm = .ok r → cmdMax s.cfg < r.length →
      exec .frmUnesc s = .next { s with operr := .bufferOverflow, port := none }) ∧
    (∀ r, unescape s.frm = .ok r → r.length ≤ cmdMax s.cfg →
      exec .frmUnesc s = .next { s with cmd := r, operr := .none, port := none }) ∧
    (∀ e, decodeFrame s.frm = .error e → exec .frmDec s = .next { s with operr := e, port := none }) ∧
    (∀ r, decodeFrame s.frm = .ok r → cmdMax s.cfg < r.length →
      exec .frmDec s = .next { s with operr := .bufferOverflow, port := none }) ∧
    (∀ r, decodeFrame s.frm = .ok r → r.length ≤ cmdMax s.cfg →
      exec .frmDec s = .next { s with cmd := r, operr := .none, port := none })

/-- `TX.SEND` on the idle block: the frame is logged with the transport's result, a failure is a refusal and no abort
(spec/41_frame_codec.md R139). -/
def Obligations.TxSendLogsTheFrame : Prop :=
  RequestIs 0x15 (fun _ _ => .txSend) ∧
  ∀ s : State, s.isIdle = true →
    (∀ rest, s.tx = .ok :: rest → exec .txSend s = .next
      { s with tx := rest, history := s.history ++ [.tx s.frm .ok], operr := .none, port := none }) ∧
    (∀ rest, s.tx = .failed :: rest → exec .txSend s = .next
      { s with tx := rest, history := s.history ++ [.tx s.frm .failed], operr := .transportFail, port := none })

/-! ### Command Builder -/

/-- `CMD.CLR`, `CMD.PUT`, `CMD.LOAD` on the idle block (spec/42_command_builder.md R152, R153, R157). -/
def Obligations.CommandBufferFilled : Prop :=
  RequestIs 0x20 (fun _ _ => .cmdClr) ∧ RequestIs 0x21 (fun a _ => .cmdPut (a.extractLsb' 0 8)) ∧
  RequestIs 0x22 (fun a _ => .cmdLoad a) ∧
  ∀ s : State, s.isIdle = true →
    exec .cmdClr s = .next { s with cmd := [], operr := .none, port := none } ∧
    (∀ b, exec (.cmdPut b) s =
      if s.cmd.length = cmdMax s.cfg then .next { s with operr := .bufferOverflow, port := none }
      else .next { s with cmd := s.cmd ++ [b], operr := .none, port := none }) ∧
    (∀ t c, template s.cfg t.toNat = some c →
      exec (.cmdLoad t) s = .next { s with cmd := c, operr := .none, port := none }) ∧
    (∀ t, 7 < t.toNat → exec (.cmdLoad t) s = .next { s with operr := .operandRange, port := none }) ∧
    (∀ t : Word32, t.toNat ≤ 7 → ∃ c, template s.cfg t.toNat = some c)

/-- `CMD.PUT32` stores the four little-endian bytes and no other, or refuses an offset whose four bytes do not lie inside
the command (spec/42_command_builder.md R154). -/
def Obligations.Put32StoresLittleEndian : Prop :=
  RequestIs 0x23 (fun a b => .cmdPut32 a b) ∧
  ∀ (s : State) (o v : Word32), s.isIdle = true →
    (s.cmd.length < o.toNat + 4 →
      exec (.cmdPut32 o v) s = .next { s with operr := .operandRange, port := none }) ∧
    (o.toNat + 4 ≤ s.cmd.length → ∃ out,
      exec (.cmdPut32 o v) s = .next { s with cmd := out, operr := .none, port := none } ∧
      out.length = s.cmd.length ∧
      out[o.toNat]? = some (v.extractLsb' 0 8) ∧ out[o.toNat + 1]? = some (v.extractLsb' 8 8) ∧
      out[o.toNat + 2]? = some (v.extractLsb' 16 8) ∧ out[o.toNat + 3]? = some (v.extractLsb' 24 8) ∧
      ∀ i, i < o.toNat ∨ o.toNat + 4 ≤ i → out[i]? = s.cmd[i]?)

/-- `CMD.INC2` increments two adjacent bytes, each modulo 256 and no carry between them, and no other
(spec/42_command_builder.md R155). -/
def Obligations.Inc2IncrementsTwoBytes : Prop :=
  RequestIs 0x24 (fun a _ => .cmdInc2 a) ∧
  ∀ (s : State) (o : Word32), s.isIdle = true →
    (s.cmd.length < o.toNat + 2 →
      exec (.cmdInc2 o) s = .next { s with operr := .operandRange, port := none }) ∧
    (o.toNat + 2 ≤ s.cmd.length → ∃ out,
      exec (.cmdInc2 o) s = .next { s with cmd := out, operr := .none, port := none } ∧
      out.length = s.cmd.length ∧
      (∀ i, i = o.toNat ∨ i = o.toNat + 1 → out[i]? = s.cmd[i]?.map (· + 1)) ∧
      ∀ i, i < o.toNat ∨ o.toNat + 2 ≤ i → out[i]? = s.cmd[i]?)

/-- `CMD.CRCPATCH` writes the complemented CRC of the payload into the last two bytes, leaves the un-complemented one in
`CRC`, and changes nothing when done again (spec/42_command_builder.md R156). -/
def Obligations.CrcpatchSealsTheCommand : Prop :=
  RequestIs 0x25 (fun _ _ => .cmdCrcpatch) ∧
  ∀ s : State, s.isIdle = true →
    (s.cmd.length < 2 → exec .cmdCrcpatch s = .next { s with operr := .operandRange, port := none }) ∧
    (2 ≤ s.cmd.length →
      let body := s.cmd.take (s.cmd.length - 2)
      let raw := crc16 0xFFFF body
      let t := { s with
        cmd := body ++ [(~~~ raw).extractLsb' 0 8, (~~~ raw).extractLsb' 8 8]
        crc := raw, operr := .none, port := none }
      exec .cmdCrcpatch s = .next t ∧ exec .cmdCrcpatch t = .next t)

/-- `CMD.HELLO` and `CMD.CLOSE` on the idle block, byte by byte, and the same as
their primitive operations (spec/42_command_builder.md R160, R163, R164, R167). -/
def Obligations.HelloAndCloseAreBuilt : Prop :=
  RequestIs 0x28 (fun a _ => .cmdHello (a.getLsbD 0)) ∧ RequestIs 0x2B (fun _ _ => .cmdClose) ∧
  ∀ s : State, s.isIdle = true →
    (∀ g, ∃ out,
      exec (.cmdHello g) s = .next { s with cmd := out, crc := crc16 0xFFFF (out.take 35), operr := .none, port := none } ∧
      out = helloCmd s.cfg g ∧ out.length = 37 ∧
      (∀ i, i < 35 → out[i]? = (helloT s.cfg)[i]?.map fun b =>
        if g = true ∧ (i = genOff s.cfg ∨ i = genOff s.cfg + 1) then b + 1 else b) ∧
      out.drop 35 = le16 (fcs (out.take 35)) ∧
      execAll ([.cmdLoad 0] ++ (if g then [.cmdInc2 (BitVec.ofNat 32 (genOff s.cfg))] else []) ++ [.cmdCrcpatch])
          { s with port := none } = exec (.cmdHello g) s) ∧
    (∃ out,
      exec .cmdClose s = .next { s with cmd := out, crc := crc16 0xFFFF (out.take 1), operr := .none, port := none } ∧
      out = closeCmd s.cfg ∧ out.length = 3 ∧ out[0]? = (closeT s.cfg)[0]? ∧ out.drop 1 = le16 (fcs (out.take 1)) ∧
      execAll [.cmdLoad 7, .cmdCrcpatch] { s with port := none } = exec .cmdClose s)

/-- `CMD.OPEN` on the idle block: the template with the adjusted size at the size offset, sealed; refused for a position
above 2 and for a first image below 8 bytes; the same as its three primitive operations (spec/42_command_builder.md R161,
R165). -/
def Obligations.OpenIsBuilt : Prop :=
  RequestIs 0x29 (fun a b => .cmdOpen a b) ∧
  ∀ (s : State) (p size : Word32), s.isIdle = true →
    (2 < p.toNat ∨ p.toNat = 0 ∧ size.toNat < 8 →
      exec (.cmdOpen p size) s = .next { s with operr := .operandRange, port := none }) ∧
    (∀ j : Pos, p.toNat = j.val → (j = 0 → 8 ≤ size.toNat) →
      let len := (openT s.cfg j).length
      let off := openSizeOff s.cfg j
      let field := if j = 0 then size - 8 else size
      (∃ out,
        exec (.cmdOpen p size) s = .next
          { s with cmd := out, crc := crc16 0xFFFF (out.take (len - 2)), operr := .none, port := none } ∧
        openCmd s.cfg j size = some out ∧ out.length = len ∧
        (∀ k, k < 4 → out[off + k]? = (le32 field)[k]?) ∧
        (∀ i, i < len - 2 → i < off ∨ off + 4 ≤ i → out[i]? = (openT s.cfg j)[i]?) ∧
        out.drop (len - 2) = le16 (fcs (out.take (len - 2)))) ∧
      (off < 2 ^ 32 →
        execAll [.cmdLoad (p + 1), .cmdPut32 (BitVec.ofNat 32 off) field, .cmdCrcpatch] { s with port := none } =
          exec (.cmdOpen p size) s))

/-- `CMD.TRAILER` on the idle block, as `CMD.OPEN` with the trailer's template and offset (spec/42_command_builder.md R162,
R166). -/
def Obligations.TrailerIsBuilt : Prop :=
  RequestIs 0x2A (fun a b => .cmdTrailer a b) ∧
  ∀ (s : State) (p size : Word32), s.isIdle = true →
    (2 < p.toNat ∨ p.toNat = 0 ∧ size.toNat < 8 →
      exec (.cmdTrailer p size) s = .next { s with operr := .operandRange, port := none }) ∧
    (∀ j : Pos, p.toNat = j.val → (j = 0 → 8 ≤ size.toNat) →
      let len := (trailerT s.cfg j).length
      let off := trailerSizeOff s.cfg j
      let field := if j = 0 then size - 8 else size
      (∃ out,
        exec (.cmdTrailer p size) s = .next
          { s with cmd := out, crc := crc16 0xFFFF (out.take (len - 2)), operr := .none, port := none } ∧
        trailerCmd s.cfg j size = some out ∧ out.length = len ∧
        (∀ k, k < 4 → out[off + k]? = (le32 field)[k]?) ∧
        (∀ i, i < len - 2 → i < off ∨ off + 4 ≤ i → out[i]? = (trailerT s.cfg j)[i]?) ∧
        out.drop (len - 2) = le16 (fcs (out.take (len - 2)))) ∧
      (off < 2 ^ 32 →
        execAll [.cmdLoad (p + 4), .cmdPut32 (BitVec.ofNat 32 off) field, .cmdCrcpatch] { s with port := none } =
          exec (.cmdTrailer p size) s))

/-- After a performed `CMD.HELLO`, `CMD.OPEN`, `CMD.TRAILER`, `CMD.CLOSE` or `CMD.CRCPATCH` the command ends in its CRC and
runs to the residue (spec/42_command_builder.md R168, its first sentence). -/
def Obligations.BuiltCommandsAreSealed : Prop :=
  ∀ (i : Instr) (s t : State),
    ((∃ g, i = .cmdHello g) ∨ (∃ p v, i = .cmdOpen p v) ∨ (∃ p v, i = .cmdTrailer p v) ∨ i = .cmdClose ∨
      i = .cmdCrcpatch) →
    exec i s = .next t → t.operr = .none →
    t.cmd.drop (t.cmd.length - 2) = le16 (fcs (t.cmd.take (t.cmd.length - 2))) ∧ crc16 0xFFFF t.cmd = 0xF0B8

/-- No operation, step or reset changes the template ROM, any other parameter, or an image (spec/20_memory.md R53, R60). -/
def Obligations.RomAndImagesNeverChange : Prop :=
  ∀ s t : State, step s = .next t → t.cfg = s.cfg ∧ t.images = s.images

/-- Programs and pseudo-operations (spec/30_encoding.md R95, R96). A program runs at a free port: `HELLO.MANUAL g` leaves what
`CMD.HELLO g` leaves, `CRC16 n` the finalised CRC in `RES`, the byte lists their bytes in the buffer, `SEND.FRAMED` and
`SEND.UNFRAMED` one event of the wire form, `AWAIT k` the verdict on one burst. A transport call that does not return holds
the program: the request stands at the port and no later one is accepted (logs 3 and 7). Issued by the host request by
request, a program ends in the same state, with the requests not yet accepted still before the port. -/
def Obligations.PseudoOperations : Prop :=
  ∀ s : State, s.isIdle = true →
    let run := fun p => execAll (expand s.cfg p) { s with port := none }
    (∀ g, run (.helloManual g) = exec (.cmdHello g) s) ∧
    (∀ n, n.toNat ≤ s.cmd.length → ∃ t, run (.crc16 n) = .next t ∧
      t.res = (fcs (s.cmd.take n.toNat)).setWidth 32) ∧
    (∀ bs, bs.length ≤ cmdMax s.cfg → run (.cmdBytes bs) = .next { s with cmd := bs, operr := .none, port := none }) ∧
    (∀ bs, bs.length ≤ frmMax s.cfg → run (.frmBytes bs) = .next { s with frm := bs, operr := .none, port := none }) ∧
    (∀ bs, bs.length ≤ ackBufLen s.cfg → run (.ackBytes bs) = .next { s with ack := bs, operr := .none, port := none }) ∧
    (∀ rest, s.tx = .ok :: rest →
      run .sendFramed = .next
        { s with frm := encodeFrame s.cmd, tx := rest, history := s.history ++ [.tx (encodeFrame s.cmd) .ok]
                 operr := .none, port := none } ∧
      run .sendUnframed = .next
        { s with frm := s.cmd, tx := rest, history := s.history ++ [.tx s.cmd .ok], operr := .none, port := none }) ∧
    (∀ k r rest, s.rx = .burst r :: rest → r.length ≤ ackBufLen s.cfg →
      ∃ t, run (.awaitAck k) = .next t ∧ t.ack = r ∧
        t.lastack = ⟨(validate r k).1, (validate r k).2, k⟩) ∧
    (s.tx = [] →
      run .sendFramed = .next
        { s with frm := encodeFrame s.cmd, operr := .none, port := some 0x150000000000000000 } ∧
      run .sendUnframed = .next { s with frm := s.cmd, operr := .none, port := some 0x150000000000000000 }) ∧
    (s.rx = [] → ∀ k, run (.awaitAck k) = .next { s with port := some 0x320000000000000000 }) ∧
    ∀ (p : List Instr) (t : State), (∀ i ∈ p, isRequest i = true) →
      execAll p { s with port := none, host := [] } = .next t →
      ∃ waiting, waiting <:+ issue p ∧ (t.port = none → waiting = []) ∧
        runFor p.length { s with port := none, host := issue p } = .next { t with host := waiting }

/-! ### Response Validator -/

/-- The validator's verdicts: success exactly under the four conditions, else the first of the three errors in their order
(spec/43_response_validator.md R180, R187). -/
def Obligations.ValidatorVerdicts : Prop :=
  ∀ (f : List Byte) (k : Byte),
    (validate f k = (.ok, 0) ↔
      4 ≤ f.length ∧ f[0]? = some (0x7E : Byte) ∧ f[f.length - 1]? = some (0x7E : Byte) ∧ f[1]? = some k) ∧
    ((validate f k).1 = .ok ↔ validate f k = (.ok, 0)) ∧
    (validate f k = (.tooShort, 0) ↔ f.length < 4) ∧
    (validate f k = (.missingFraming, 0) ↔
      4 ≤ f.length ∧ (f[0]? ≠ some (0x7E : Byte) ∨ f[f.length - 1]? ≠ some (0x7E : Byte))) ∧
    (∀ got, validate f k = (.unexpectedCode, got) ↔
      4 ≤ f.length ∧ f[0]? = some (0x7E : Byte) ∧ f[f.length - 1]? = some (0x7E : Byte) ∧ f[1]? = some got ∧ got ≠ k)

/-- Nothing between the code and the last delimiter influences the verdict (spec/43_response_validator.md R181). -/
def Obligations.ValidatorIgnoresTheBody : Prop :=
  ∀ (first second last : Byte) (body body' : List Byte) (k : Byte),
    body.length = body'.length →
    validate ([first, second] ++ body ++ [last]) k = validate ([first, second] ++ body' ++ [last]) k

/-- `ACK.CLR`, `ACK.PUT`, `ACK.RECV` on the idle block (spec/43_response_validator.md R182, R183, R184). -/
def Obligations.AckBufferFilled : Prop :=
  RequestIs 0x30 (fun _ _ => .ackClr) ∧ RequestIs 0x31 (fun a _ => .ackPut (a.extractLsb' 0 8)) ∧
  RequestIs 0x32 (fun _ _ => .ackRecv) ∧
  ∀ s : State, s.isIdle = true →
    exec .ackClr s = .next { s with ack := [], operr := .none, port := none } ∧
    (∀ b, exec (.ackPut b) s =
      if s.ack.length = ackBufLen s.cfg then .next { s with operr := .bufferOverflow, port := none }
      else .next { s with ack := s.ack ++ [b], operr := .none, port := none }) ∧
    (∀ r rest, s.rx = .burst r :: rest → r.length ≤ ackBufLen s.cfg → exec .ackRecv s = .next
      { s with ack := r, rx := rest, history := s.history ++ [.rx (.burst r)], operr := .none, port := none }) ∧
    (∀ rest, s.rx = .error :: rest → exec .ackRecv s = .next
      { s with rx := rest, history := s.history ++ [.rx .error], operr := .transportFail, port := none })

/-- `ACK.CHECK` on the idle block: the verdict in `LASTACK`, in the sticky flag of its kind, and in `RES`
(spec/43_response_validator.md R185, R186). -/
def Obligations.AckCheckRecordsTheVerdict : Prop :=
  RequestIs 0x33 (fun a _ => .ackCheck (a.extractLsb' 0 8)) ∧
  ∀ (s : State) (k : Byte), s.isIdle = true →
    let v := validate s.ack k
    ∃ word, exec (.ackCheck k) s = .next
        { s with
          lastack := ⟨v.1, v.2, k⟩
          ackflags := s.ackflags |||
            (match v.1 with
             | .ok => 0b000
             | .tooShort => 0b001
             | .missingFraming => 0b010
             | .unexpectedCode => 0b100)
          res := word, operr := .none, port := none } ∧
      word.toNat = (ackKindCode v.1).toNat + 256 * v.2.toNat + 65536 * k.toNat

/-- A flag of `ACKFLAGS` once set stays set until reset (spec/10_state.md R34, spec/43_response_validator.md R186). -/
def Obligations.AckFlagsAreSticky : Prop :=
  ∀ s t : State, s.resetNow = false → step s = .next t → s.ackflags &&& t.ackflags = s.ackflags

/-! ### Host access -/

/-- `SEQ.RUN` on the idle block: `BUSY` set where all five conditions hold, the abort `ConfigError` where one fails
(spec/44_transfer_sequencer.md R191, R195; spec/60_exceptions.md R232, R240). -/
def Obligations.SeqRunChecksTheConfiguration : Prop :=
  RequestIs 0x40 (fun _ _ => .seqRun) ∧
  ∀ s : State, s.isIdle = true →
    let ok : Prop :=
      (s.nimg.toNat = 2 ∨ s.nimg.toNat = 3) ∧ (s.nimg.toNat = 3 → s.gen2 = true) ∧
      (∀ i : Pos, i.val < s.nimg.toNat → s.size[i].toNat ≤ 0xFFFFFFFF) ∧
      8 ≤ s.size[0].toNat ∧ 8 ≤ s.size[0].toNat % 262144
    (ok → exec .seqRun s = .next { s with busy := true, operr := .none, port := none }) ∧
    (¬ ok → exec .seqRun s = .next
      { s with seq := .aborted, aborted := true, cause := .configError, busy := false, await := false
               operr := .none, port := none })

/-- `REG.WR` on the idle block: the configuration registers by number, every other number refused
(spec/44_transfer_sequencer.md R193). -/
def Obligations.RegWrWritesTheConfiguration : Prop :=
  RequestIs 0x50 (fun a b => .regWr a b) ∧
  ∀ (s : State) (v : Word32), s.isIdle = true →
    exec (.regWr 0x10 v) s = .next { s with gen2 := v.getLsbD 0, operr := .none, port := none } ∧
    exec (.regWr 0x11 v) s = .next { s with nimg := v.extractLsb' 0 2, operr := .none, port := none } ∧
    (∀ i : Pos, exec (.regWr (BitVec.ofNat 32 (0x12 + 2 * i.val)) v) s = .next
      { s with size := s.size.set i (s.size[i].extractLsb' 32 32 ++ v : Word64), operr := .none, port := none }) ∧
    (∀ i : Pos, exec (.regWr (BitVec.ofNat 32 (0x13 + 2 * i.val)) v) s = .next
      { s with size := s.size.set i (v ++ s.size[i].extractLsb' 0 32 : Word64), operr := .none, port := none }) ∧
    (∀ r : Word32, r.toNat < 0x10 ∨ 0x17 < r.toNat →
      exec (.regWr r v) s = .next { s with operr := .operandRange, port := none })

/-- `REG.RD` in every state: each register of spec/10_state.md R37 by its number, zero-extended, as it was before the
request; every other number refused (spec/44_transfer_sequencer.md R194). The codes are those of spec/10_state.md R27 and
spec/60_exceptions.md R231, R236, R237. That a length register reads the low 32 bits of the length is the model's choice
(log 11); it matters only for capacities of 2^32 bytes or more. -/
def Obligations.RegRdReadsEveryRegister : Prop :=
  RequestIs 0x51 (fun a _ => .regRd a) ∧
  [SeqState.start, .helloSent, .imageOpen, .imageStreaming, .imageAcked, .closing, .done, .aborted].map seqCode =
    [0, 1, 2, 3, 4, 5, 6, 7] ∧
  [Cause.none, .configError, .transportTx, .transportRx, .ackFatal].map causeCode = [0, 1, 2, 3, 4] ∧
  [OpErr.none, .illegalOp, .busy, .operandRange, .bufferOverflow, .decMissingDelimiter, .decBareDelimiter, .decBadEscape,
    .decTruncatedEscape, .transportFail].map opErrCode = [0, 1, 2, 3, 4, 5, 6, 7, 8, 9] ∧
  [AckKind.ok, .tooShort, .missingFraming, .unexpectedCode].map ackKindCode = [0, 1, 2, 3] ∧
  ∀ s : State,
    (∀ e ∈ [
        (0x00, s.busy.toNat + 2 * s.done.toNat + 4 * s.aborted.toNat + 8 * s.await.toNat),
        (0x01, (seqCode s.seq).toNat + 16 * s.img.val), (0x02, (causeCode s.cause).toNat),
        (0x03, (opErrCode s.operr).toNat), (0x04, s.ackflags.toNat),
        (0x05, (ackKindCode s.lastack.kind).toNat + 256 * s.lastack.got.toNat + 65536 * s.lastack.expected.toNat),
        (0x06, s.expect.toNat), (0x07, s.off.toNat), (0x08, s.crc.toNat), (0x09, s.res.toNat),
        (0x0A, s.cmd.length % 2 ^ 32), (0x0B, s.frm.length % 2 ^ 32), (0x0C, s.ack.length % 2 ^ 32),
        (0x10, s.gen2.toNat), (0x11, s.nimg.toNat),
        (0x12, s.size[0].toNat % 2 ^ 32), (0x13, s.size[0].toNat / 2 ^ 32),
        (0x14, s.size[1].toNat % 2 ^ 32), (0x15, s.size[1].toNat / 2 ^ 32),
        (0x16, s.size[2].toNat % 2 ^ 32), (0x17, s.size[2].toNat / 2 ^ 32)],
      exec (.regRd (BitVec.ofNat 32 e.1)) s = .next { s with res := BitVec.ofNat 32 e.2, operr := .none, port := none }) ∧
    (∀ r : Word32, 0x0D ≤ r.toNat ∧ r.toNat ≤ 0x0F ∨ 0x18 ≤ r.toNat →
      exec (.regRd r) s = .next { s with operr := .operandRange, port := none })

/-- `BUF.RD` in every state: the byte below the buffer's length, every other index and space refused
(spec/44_transfer_sequencer.md R192). -/
def Obligations.BufRdReadsBelowTheLength : Prop :=
  RequestIs 0x52 (fun a b => .bufRd a b) ∧
  ∀ (s : State) (i : Word32),
    (∀ e ∈ [(0, s.cmd), (1, s.frm), (2, s.ack)],
      (∀ b, e.2[i.toNat]? = some b → exec (.bufRd (BitVec.ofNat 32 e.1) i) s =
        .next { s with res := b.setWidth 32, operr := .none, port := none }) ∧
      (e.2.length ≤ i.toNat → exec (.bufRd (BitVec.ofNat 32 e.1) i) s =
        .next { s with operr := .operandRange, port := none })) ∧
    (∀ sp : Word32, 2 < sp.toNat → exec (.bufRd sp i) s = .next { s with operr := .operandRange, port := none })

/-- An idle block refuses every request whose operands are outside the ranges that hold in every state, with
`OperandRange` and no other change (spec/60_exceptions.md R237, R238). -/
def Obligations.IllFormedRequestsAreRefused : Prop :=
  ∀ (i : Instr) (s : State), s.isIdle = true → i.wellFormed = false →
    exec i s = .next { s with operr := .operandRange, port := none }

/-! ### The sequencer's steps -/

/-- `S.HELLO_TX` and `S.CLOSE_TX` where they are enabled (spec/44_transfer_sequencer.md R197, R205). -/
def Obligations.HelloAndCloseAreSent : Prop :=
  ∀ s : State, s.busy = true → s.await = false →
    (s.seq = .start →
      let c := helloCmd s.cfg s.gen2
      Writes .sHelloTx s (withCommand s c (encodeFrame c)) (encodeFrame c)
        fun t => { t with await := true, expect := 0x02 }) ∧
    (s.seq = .imageAcked → s.img.val + 1 = s.nimg.toNat →
      let c := closeCmd s.cfg
      Writes .sCloseTx s (withCommand s c (encodeFrame c)) (encodeFrame c) fun t => { t with seq := .closing })

/-- `S.OPEN_TX` where it is enabled, for the first image and for a next one, in a configuration whose first image has at
least 8 bytes (spec/44_transfer_sequencer.md R199). -/
def Obligations.OpenIsSent : Prop :=
  ∀ s : State, s.busy = true → s.await = false →
    (s.seq = .helloSent → 8 ≤ (s.size[0].extractLsb' 0 32).toNat →
      ∃ c, openCmd s.cfg 0 (s.size[0].extractLsb' 0 32) = some c ∧
        Writes .sOpenTxFirst s (withCommand s c (encodeFrame c)) (encodeFrame c)
          fun t => { t with await := true, expect := 0x26 }) ∧
    (∀ j : Pos, s.seq = .imageAcked → s.img.val + 1 < s.nimg.toNat → j.val = s.img.val + 1 →
      ∃ c, openCmd s.cfg j (s.size[j].extractLsb' 0 32) = some c ∧
        Writes .sOpenTxNext s (withCommand s c (encodeFrame c)) (encodeFrame c)
          fun t => { t with await := true, expect := 0x26 })

/-- `S.TRAILER_TX` where it is enabled: the command raw, no wait (spec/44_transfer_sequencer.md R201). -/
def Obligations.TrailerIsSentRaw : Prop :=
  ∀ s : State, s.busy = true → s.await = false → s.seq = .imageOpen →
    (s.img = 0 → 8 ≤ (s.size[0].extractLsb' 0 32).toNat) →
    ∃ c, trailerCmd s.cfg s.img (s.size[s.img].extractLsb' 0 32) = some c ∧
      Writes .sTrailerTx s (withCommand s c c) c fun t => { t with off := 0, seq := .imageStreaming }

/-- `S.CHUNK` where it is enabled: a full chunk verbatim, or the final one, 8 bytes short for the first image
(spec/44_transfer_sequencer.md R203). -/
def Obligations.ChunkIsSentVerbatim : Prop :=
  ∀ s : State, s.busy = true → s.await = false → s.seq = .imageStreaming →
    s.off.toNat ≤ (s.size[s.img].extractLsb' 0 32).toNat →
    let left := (s.size[s.img].extractLsb' 0 32).toNat - s.off.toNat
    (262144 ≤ left →
      Writes .sChunk s s (s.imgRead s.img s.off.toNat 262144) fun t => { t with off := t.off + 262144 }) ∧
    (left < 262144 → s.img ≠ 0 →
      Writes .sChunk s s (s.imgRead s.img s.off.toNat left)
        fun t => { t with off := t.off + BitVec.ofNat 32 left, await := true, expect := 0x28 }) ∧
    (left < 262144 → s.img = 0 → 8 ≤ left →
      Writes .sChunk s s (s.imgRead s.img s.off.toNat (left - 8))
        fun t => { t with off := t.off + BitVec.ofNat 32 left, await := true, expect := 0x28 })

/-- `S.HELLO_ACK`, `S.OPEN_ACK` (first and next image) and `S.DATA_ACK` where they are enabled
(spec/44_transfer_sequencer.md R198, R200, R204, R207). -/
def Obligations.AwaitingStepsReadOneBurst : Prop :=
  ∀ s : State, s.busy = true → s.await = true →
    (s.seq = .start → Awaits .sHelloAck s 0x02 fun t => { t with await := false, seq := .helloSent }) ∧
    (s.seq = .helloSent →
      Awaits .sOpenAckFirst s 0x26 fun t => { t with await := false, img := 0, seq := .imageOpen }) ∧
    (∀ j : Pos, s.seq = .imageAcked → j.val = s.img.val + 1 →
      Awaits .sOpenAckNext s 0x26 fun t => { t with await := false, img := j, seq := .imageOpen }) ∧
    (s.seq = .imageStreaming → Awaits .sDataAck s 0x28 fun t => { t with await := false, seq := .imageAcked })

/-- `S.FINISH` where it is enabled (spec/44_transfer_sequencer.md R206). -/
def Obligations.FinishEndsTheSession : Prop :=
  ∀ s : State, s.busy = true → s.await = false → s.seq = .closing →
    exec .sFinish s = .next { s with seq := .done, done := true, busy := false }

/-- A transport call that does not return holds its caller: `TX.SEND` and `ACK.RECV` on the idle block, the sending steps
and the awaiting steps change nothing and are tried again (spec/70_reset_and_hazards.md R267, spec/20_memory.md R56, R58; that
nothing at all has changed meanwhile is the model's reading, log 7). -/
def Obligations.BlockedCallsChangeNothing : Prop :=
  ∀ s : State,
    (s.isIdle = true → s.tx = [] → exec .txSend s = .next s) ∧
    (s.isIdle = true → s.rx = [] → exec .ackRecv s = .next s) ∧
    (∀ i, Inv s → s.selected = some i → s.tx = [] →
      i ∈ [Instr.sHelloTx, .sOpenTxFirst, .sOpenTxNext, .sTrailerTx, .sChunk, .sCloseTx] → exec i s = .next s) ∧
    (∀ i, Inv s → s.selected = some i → s.rx = [] →
      i ∈ [Instr.sHelloAck, .sOpenAckFirst, .sOpenAckNext, .sDataAck] → exec i s = .next s)

/-- Where the spec gives a step no value the model is stuck, by name (the model's choice, log 8): a first image below 8
bytes, its final chunk below 8 bytes (spec/93_implementation_defined.md U1, U2), `OFF` beyond the image, an image after
position 2, a selector without a step. -/
def Obligations.UndefinedStepsAreStuck : Prop :=
  ∀ s : State, s.busy = true →
    (s.await = false → s.seq = .helloSent → (s.size[0].extractLsb' 0 32).toNat < 8 →
      exec .sOpenTxFirst s = .fault .negativeSize) ∧
    (s.await = false → s.seq = .imageOpen → s.img = 0 → (s.size[0].extractLsb' 0 32).toNat < 8 →
      exec .sTrailerTx s = .fault .negativeSize) ∧
    (s.await = false → s.seq = .imageAcked → s.img = 2 → s.nimg.toNat ≠ 3 →
      exec .sOpenTxNext s = .fault .noSuchImage) ∧
    (s.await = true → s.seq = .imageAcked → s.img = 2 → exec .sOpenAckNext s = .fault .noSuchImage) ∧
    (s.await = false → s.seq = .imageStreaming → (s.size[s.img].extractLsb' 0 32).toNat < s.off.toNat →
      exec .sChunk s = .fault .offsetBeyondSize) ∧
    (s.await = false → s.seq = .imageStreaming → s.img = 0 → s.off.toNat ≤ (s.size[0].extractLsb' 0 32).toNat →
      (s.size[0].extractLsb' 0 32).toNat - s.off.toNat < 8 → exec .sChunk s = .fault .negativeLength) ∧
    (s.port = none → s.host = [] → (∀ i, decodeSelector s.selector ≠ .ok i) → step s = .fault .noStepSelected)

/-! ### The data stream and the wire -/

/-- The data events of one image: `q + 1` of them, the first `q` of 262144 bytes, all of them together the image without
the last 8 bytes of the first image (spec/44_transfer_sequencer.md R202). -/
def Obligations.DataEventsAreTheImage : Prop :=
  ∀ (s : State) (p : Pos), (p = 0 → 8 ≤ (s.sizeLo p).toNat % 262144) →
    (dataEvents s p).length = (s.sizeLo p).toNat / 262144 + 1 ∧
    (∀ i, i < (s.sizeLo p).toNat / 262144 → ∃ e, (dataEvents s p)[i]? = some e ∧ e.length = 262144) ∧
    (dataEvents s p).flatten = s.imgRead p 0 ((s.sizeLo p).toNat - if p = 0 then 8 else 0) ∧
    (∀ v, adj p (s.sizeLo p) = some v → (dataEvents s p).flatten.length = v.toNat)

/-- An image read is the slice of what the host supplied (spec/20_memory.md R60). -/
def Obligations.ImageReadsAreSlices : Prop :=
  ∀ (s : State) (p : Pos) (off n : Nat), HostContract s → p.val < s.nimg.toNat → off + n ≤ s.size[p].toNat →
    s.imgRead p off n = (s.images[p].drop off).take n ∧ (s.imgRead p off n).length = n

/-- The history only grows, by at most one event a step, and the wire with it (spec/20_memory.md R56, R57, R65 (c), (e);
spec/10_state.md R36). A TX event carries what `TX.SEND` finds in `FRM` or what the selected step sends, with the transport's
result; a payload that the transport accepted extends the wire by all of it, a failed one by some prefix; where no write has
failed the wire is the concatenation of the payloads of `TXLOG`. What the wire may be after a failed write is a relation, and
a write in progress at reset is on no log (the model's reading, log 14). -/
def Obligations.WireIsTheConcatenation : Prop :=
  (∀ s : State, (∀ e ∈ txLog s, e.2 = .ok) → ∀ w, IsWire (txLog s) w ↔ w = ((txLog s).map (·.1)).flatten) ∧
  ∀ s t : State, s.resetNow = false → step s = .next t →
    (∃ l, l.length ≤ 1 ∧ t.history = s.history ++ l) ∧
    (txLog t = txLog s ∨ ∃ b r, txLog t = txLog s ++ [(b, r)] ∧ s.tx = r :: t.tx ∧
      (s.busy = false → b = s.frm) ∧ (s.busy = true → Inv s → nextPayload s = some b)) ∧
    (∀ b, txLog t = txLog s ++ [(b, .ok)] →
      ∀ v, IsWire (txLog t) v ↔ ∃ w, IsWire (txLog s) w ∧ v = w ++ b) ∧
    (∀ b, txLog t = txLog s ++ [(b, .failed)] →
      ∀ v, IsWire (txLog t) v ↔ ∃ w p, IsWire (txLog s) w ∧ p <+: b ∧ v = w ++ p) ∧
    (∀ w, IsWire (txLog s) w → ∃ v, IsWire (txLog t) v ∧ w <+: v) ∧
    (∀ v, IsWire (txLog t) v → ∃ w, IsWire (txLog s) w ∧ w <+: v)

/-! ### Every state, every run -/

/-- Right after reset, in any surroundings, the invariant holds; and a reset at any time leads to such a state, with the
images, what the transport holds, and the host's further inputs as they were (spec/10_state.md R40, R42, spec/70_reset_and_hazards.md
R261; that the model's own fields stay is the model's choice, logs 2 to 4 and 15). -/
def Obligations.ResetHasTheInvariant : Prop :=
  Inv State.reset ∧ (∀ s : State, AfterReset s → Inv s) ∧
  ∀ (s : State) (rest : List HostInput), s.host = .reset :: rest →
    ∃ t, step s = .next t ∧ AfterReset t ∧ t.cfg = s.cfg ∧ t.images = s.images ∧ t.rx = s.rx ∧ t.tx = s.tx ∧ t.host = rest

/-- Every step keeps the invariant (spec/10_state.md R42). -/
def Obligations.StepKeepsTheInvariant : Prop :=
  ∀ s t : State, Inv s → step s = .next t → Inv t

/-- In a state with the invariant a step answers a next state: the block is never stuck and never without a meaning. -/
def Obligations.StepAnswersANextState : Prop :=
  ∀ s : State, Inv s → ∃ t, step s = .next t

/-- Every run from reset goes on for as many steps as one likes and keeps the invariants (spec/10_state.md R42). -/
def Obligations.ReachableStatesKeepTheInvariant : Prop :=
  ∀ (k : Nat) (s : State), AfterReset s → ∃ t, runFor k s = .next t ∧ Inv t

/-- `Done` and `Aborted` have no step: until reset only `RES`, `OPERR` and the host's side of the port change
(spec/44_transfer_sequencer.md R210). -/
def Obligations.FinishedBlockStays : Prop :=
  ∀ s t : State, Inv s → s.seq = .done ∨ s.seq = .aborted → s.resetNow = false → step s = .next t →
    t = { s with res := t.res, operr := t.operr, port := t.port, host := t.host }

/-- Every abort clears `BUSY` and `AWAIT`, keeps where the session stood, and records why, and the history ends in the failed
event: for a write, with the payload that the selected step sends, which `FRM` keeps unless it is image data
(spec/60_exceptions.md R231 to R234, R240; spec/44_transfer_sequencer.md R197, R199, R201, R203, R205). -/
def Obligations.AbortsRecordTheirCause : Prop :=
  ∀ s t : State, Inv s → s.seq ≠ .aborted → step s = .next t → t.seq = .aborted →
    t.aborted = true ∧ t.done = false ∧ t.busy = false ∧ t.await = false ∧ t.img = s.img ∧ t.off = s.off ∧
    t.expect = s.expect ∧ t.gen2 = s.gen2 ∧ t.nimg = s.nimg ∧ t.size = s.size ∧
    match t.cause with
    | .none => False
    | .configError =>
      s.busy = false ∧ s.configOk = false ∧ t.operr = .none ∧ t.history = s.history ∧ t.cmd = s.cmd ∧ t.frm = s.frm ∧
        t.ack = s.ack ∧ t.lastack = s.lastack ∧ t.ackflags = s.ackflags
    | .transportTx =>
      s.busy = true ∧ s.await = false ∧
        (∃ b, nextPayload s = some b ∧ t.history = s.history ++ [.tx b .failed] ∧
          if s.seq = .imageStreaming then t.cmd = s.cmd ∧ t.frm = s.frm ∧ t.crc = s.crc else t.frm = b) ∧
        t.ack = s.ack ∧ t.lastack = s.lastack ∧ t.ackflags = s.ackflags
    | .transportRx =>
      s.await = true ∧ t.history = s.history ++ [.rx .error] ∧ t.cmd = s.cmd ∧ t.frm = s.frm ∧
        t.ack = s.ack ∧ t.lastack = s.lastack ∧ t.ackflags = s.ackflags
    | .ackFatal =>
      s.await = true ∧ s.cfg.ackFatal = true ∧ t.cmd = s.cmd ∧ t.frm = s.frm ∧
        t.history = s.history ++ [.rx (.burst t.ack)] ∧ t.lastack.kind ≠ .ok ∧
        t.lastack = ⟨(validate t.ack s.expect).1, (validate t.ack s.expect).2, s.expect⟩

/-- While a session runs, every step that neither resets nor aborts keeps its history at the events that the registers stand
for, in the order of spec/44_transfer_sequencer.md R209. -/
def Obligations.StepExtendsTheSessionLog : Prop :=
  ∀ (s t : State) (before h : List Event), Inv s → s.busy = true → s.resetNow = false →
    s.history = before ++ h → List.Forall₂ Event.is h (eventsSoFar s) → step s = .next t → t.seq ≠ .aborted →
    ∃ h', t.history = before ++ h' ∧ List.Forall₂ Event.is h' (eventsSoFar t)

/-- A run that reaches `Done` has the history of spec/44_transfer_sequencer.md R209: Hello, then for each image OpenImage,
SizeTrailer and the data, then Close, with `2 + sum (3 + q_i)` TX events and `1 + 2N` bursts. -/
def Obligations.FinishedSessionLog : Prop :=
  ∀ (k : Nat) (s t : State), Inv s → s.busy = true → s.seq = .start → s.await = false → NoReset s →
    runFor k s = .next t → t.seq = .done →
    ∃ h, t.history = s.history ++ h ∧ List.Forall₂ Event.is h (sessionEvents s) ∧
      (payloads (sessionEvents s)).length =
        2 + (((List.finRange 3).filter (·.val < s.nimg.toNat)).map fun p => 3 + (s.sizeLo p).toNat / 262144).sum ∧
      (sessionEvents s).count .read = 1 + 2 * s.nimg.toNat

/-- With `ACK_FATAL = 0` what the device answers influences nothing but `ACK`, `ACKFLAGS`, `LASTACK`, `RES`, `OPERR` and the
RX log: the same TX log is produced (spec/70_reset_and_hazards.md R269). -/
def Obligations.AnswersDoNotChangeTheWire : Prop :=
  ∀ s t s' : State, s.cfg.ackFatal = false → SameButAnswers s t → step s = .next s' →
    ∃ t', step t = .next t' ∧ SameButAnswers s' t'

/-- What earlier operations left in `CRC`, `CMD`, `FRM`, `ACK`, `RES` and the status registers does not disturb a running
session: the same events follow (spec/70_reset_and_hazards.md R263). -/
def Obligations.LeftoversDoNotDisturbTheRun : Prop :=
  ∀ s t s' : State, s.isIdle = false → SameButLeftovers s t → step s = .next s' →
    ∃ t', step t = .next t' ∧ SameButLeftovers s' t'

/-- With `ACK_FATAL = 0` a session whose writes all succeed and whose reads all return reaches `Done`, whatever the bursts
hold (spec/70_reset_and_hazards.md R267, R269). -/
def Obligations.CooperativeSessionReachesDone : Prop :=
  ∀ s : State, Inv s → s.busy = true → s.seq = .start → s.await = false → s.port = none → s.host = [] →
    s.cfg.ackFatal = false → Cooperative s →
    ∃ k t, runFor k s = .next t ∧ t.seq = .done ∧ t.done = true
end

