-- ==== Sys2Proof/Laws/Crc.lean ====
section
/-! SUPPORT. The table of spec/40_crc_engine.md R114 is the bit-serial definition of R113; the fold of R112. -/
namespace Sys2Proof.Machine

/-- `TABLE[i]` is the bit-serial CRC of the single byte `i` (spec/40_crc_engine.md R113, R114). -/
theorem crcTable_bitSerial : ∀ i : Byte, crcTable i = crcBits8 (i.setWidth 16) := by decide

@[simp] theorem crc16_nil (c : Word16) : crc16 c [] = c := rfl

@[simp] theorem crc16_cons (c : Word16) (b : Byte) (t : List Byte) : crc16 c (b :: t) = crc16 (crcByte c b) t := rfl

/-- A buffer may be fed in pieces (spec/40_crc_engine.md R112). -/
theorem crc16_append (c : Word16) (d1 d2 : List Byte) : crc16 c (d1 ++ d2) = crc16 (crc16 c d1) d2 := by
  simp [crc16, List.foldl_append]

end Sys2Proof.Machine
end

