-- ==== Sys2Proof/Laws/Decode.lean ====
section
/-! SUPPORT. The fields of a request word and of a selector, read back (spec/30_encoding.md R80, R85). -/
namespace Sys2Proof

@[simp] theorem requestOp_requestWord (op : Byte) (a1 a0 : Word32) : requestOp (requestWord op a1 a0) = op := by
  simp only [requestOp, requestWord]
  ext i hi
  simp only [BitVec.getElem_extractLsb', BitVec.getLsbD_append]
  rw [if_neg (by omega), if_neg (by omega), BitVec.getLsbD_eq_getElem (by omega)]
  congr 1
  omega

@[simp] theorem requestArg1_requestWord (op : Byte) (a1 a0 : Word32) : requestArg1 (requestWord op a1 a0) = a1 := by
  simp only [requestArg1, requestWord]
  ext i hi
  simp only [BitVec.getElem_extractLsb', BitVec.getLsbD_append]
  rw [if_neg (by omega), if_pos (by omega), BitVec.getLsbD_eq_getElem (by omega)]
  congr 1
  omega

@[simp] theorem requestArg0_requestWord (op : Byte) (a1 a0 : Word32) : requestArg0 (requestWord op a1 a0) = a0 := by
  simp only [requestArg0, requestWord]
  ext i hi
  simp only [BitVec.getElem_extractLsb', BitVec.getLsbD_append]
  rw [if_pos (by omega), BitVec.getLsbD_eq_getElem (by omega)]
  congr 1
  omega

/-- A request word is its three fields. -/
theorem requestWord_fields (w : RequestWord) : requestWord (requestOp w) (requestArg1 w) (requestArg0 w) = w := by
  simp only [requestOp, requestArg1, requestArg0, requestWord]
  ext i hi
  simp only [BitVec.getElem_append, BitVec.getElem_extractLsb']
  split
  · rw [BitVec.getLsbD_eq_getElem (by omega)]; congr 1; omega
  · split
    · rw [BitVec.getLsbD_eq_getElem (by omega)]; congr 1; omega
    · rw [BitVec.getLsbD_eq_getElem (by omega)]; congr 1; omega

end Sys2Proof
end

