-- ==== Sys2Proof/Laws/Rom.lean ====
section
/-! SUPPORT. The constraints of spec/00_scope.md R11, true of every parameter set, and the lengths of built commands. -/
namespace Sys2Proof.Machine

@[simp] theorem templateBytes_length (t : SizedTemplate) :
    (templateBytes t).length = t.head.length + t.tail.length + 6 := by
  simp [templateBytes]; omega

@[simp] theorem helloT_length (c : Params) : (helloT c).length = 37 := by simp [helloT]

@[simp] theorem closeT_length (c : Params) : (closeT c).length = 3 := by simp [closeT]

theorem genOff_lt (c : Params) : genOff c + 1 ≤ 37 - 3 := by
  have := c.gen.isLt; simp only [genOff]; omega

theorem openT_length_ge (c : Params) (p : Pos) : 7 ≤ (openT c p).length := by
  simp only [openT, templateBytes_length]
  cases c.opens[p] <;> simp only [openSized, List.length_cons] <;> omega

theorem openSizeOff_fits (c : Params) (p : Pos) : openSizeOff c p + 4 ≤ (openT c p).length - 2 := by
  simp only [openT, openSizeOff, templateBytes_length]; omega

theorem trailerT_length_ge (c : Params) (p : Pos) : 6 ≤ (trailerT c p).length := by
  simp only [trailerT, templateBytes_length]; omega

theorem trailerSizeOff_fits (c : Params) (p : Pos) : trailerSizeOff c p + 4 ≤ (trailerT c p).length - 2 := by
  simp only [trailerT, trailerSizeOff, templateBytes_length]; omega

theorem ackBufLen_ge (c : Params) : 4 ≤ ackBufLen c := by simp [ackBufLen]

theorem cmdMax_ge (c : Params) : 37 ≤ cmdMax c := by simp [cmdMax]

theorem longestTemplate_le_cmdMax (c : Params) : longestTemplate c ≤ cmdMax c := by
  simp only [cmdMax]; omega

theorem openT_fits (c : Params) (p : Pos) : (openT c p).length ≤ cmdMax c := by
  refine le_trans ?_ (longestTemplate_le_cmdMax c)
  fin_cases p <;> simp [longestTemplate]

theorem trailerT_fits (c : Params) (p : Pos) : (trailerT c p).length ≤ cmdMax c := by
  refine le_trans ?_ (longestTemplate_le_cmdMax c)
  fin_cases p <;> simp [longestTemplate]

/-- Every template of the ROM fits `CMD` (spec/42_command_builder.md R151). -/
theorem template_fits (c : Params) (t : Nat) (b : List Byte) (h : template c t = some b) : b.length ≤ cmdMax c := by
  have h37 := cmdMax_ge c
  unfold template at h
  split at h <;> cases h <;> first
    | exact openT_fits c _
    | exact trailerT_fits c _
    | (simp only [helloT_length, closeT_length]; omega)

@[simp] theorem le16_length (v : Word16) : (le16 v).length = 2 := rfl

@[simp] theorem le32_length (v : Word32) : (le32 v).length = 4 := rfl

theorem patch_length (t : List Byte) (o : Nat) (w : List Byte) (h : o + w.length ≤ t.length) :
    (patch t o w).length = t.length := by
  simp only [patch, List.length_append, List.length_take, List.length_drop]; omega

theorem sealCmd_length (t : List Byte) (h : 2 ≤ t.length) : (sealCmd t).length = t.length :=
  patch_length _ _ _ (by simp only [slotLen, le16_length]; omega)

@[simp] theorem helloCmd_length (c : Params) (g : Bool) : (helloCmd c g).length = 37 := by
  have hg := genOff_lt c
  have h : (inc2 (helloT c) (genOff c)).length = 37 := by
    unfold inc2
    rw [patch_length] <;> simp only [helloT_length, List.length_cons, List.length_nil]
    omega
  unfold helloCmd
  cases g <;> (rw [sealCmd_length] <;> simp [h])

@[simp] theorem closeCmd_length (c : Params) : (closeCmd c).length = 3 := by
  unfold closeCmd; rw [sealCmd_length] <;> simp

theorem openCmd_length (c : Params) (p : Pos) (v : Word32) (b : List Byte) (h : openCmd c p v = some b) :
    b.length = (openT c p).length := by
  have h1 := openSizeOff_fits c p
  have h2 := openT_length_ge c p
  simp only [openCmd, Option.map_eq_some_iff] at h
  obtain ⟨a, -, rfl⟩ := h
  have hp := patch_length (openT c p) (openSizeOff c p) (le32 a) (by simp only [le32_length]; omega)
  rw [sealCmd_length _ (by omega), hp]

theorem trailerCmd_length (c : Params) (p : Pos) (v : Word32) (b : List Byte) (h : trailerCmd c p v = some b) :
    b.length = (trailerT c p).length := by
  have h1 := trailerSizeOff_fits c p
  have h2 := trailerT_length_ge c p
  simp only [trailerCmd, Option.map_eq_some_iff] at h
  obtain ⟨a, -, rfl⟩ := h
  have hp := patch_length (trailerT c p) (trailerSizeOff c p) (le32 a) (by simp only [le32_length]; omega)
  rw [sealCmd_length _ (by omega), hp]

end Sys2Proof.Machine
end

