-- ==== Sys2Proof/Laws/State.lean ====
section
/-! SUPPORT. One lemma per field per update of State, each true by unfolding. -/
namespace Sys2Proof.Machine

/-! ### State.finish: the end of a request -/

@[simp] theorem State.finish_cfg (s : State) (e : OpErr) : (s.finish e).cfg = s.cfg := rfl
@[simp] theorem State.finish_crc (s : State) (e : OpErr) : (s.finish e).crc = s.crc := rfl
@[simp] theorem State.finish_cmd (s : State) (e : OpErr) : (s.finish e).cmd = s.cmd := rfl
@[simp] theorem State.finish_frm (s : State) (e : OpErr) : (s.finish e).frm = s.frm := rfl
@[simp] theorem State.finish_ack (s : State) (e : OpErr) : (s.finish e).ack = s.ack := rfl
@[simp] theorem State.finish_res (s : State) (e : OpErr) : (s.finish e).res = s.res := rfl
@[simp] theorem State.finish_gen2 (s : State) (e : OpErr) : (s.finish e).gen2 = s.gen2 := rfl
@[simp] theorem State.finish_nimg (s : State) (e : OpErr) : (s.finish e).nimg = s.nimg := rfl
@[simp] theorem State.finish_size (s : State) (e : OpErr) : (s.finish e).size = s.size := rfl
@[simp] theorem State.finish_seq (s : State) (e : OpErr) : (s.finish e).seq = s.seq := rfl
@[simp] theorem State.finish_img (s : State) (e : OpErr) : (s.finish e).img = s.img := rfl
@[simp] theorem State.finish_off (s : State) (e : OpErr) : (s.finish e).off = s.off := rfl
@[simp] theorem State.finish_await (s : State) (e : OpErr) : (s.finish e).await = s.await := rfl
@[simp] theorem State.finish_expect (s : State) (e : OpErr) : (s.finish e).expect = s.expect := rfl
@[simp] theorem State.finish_busy (s : State) (e : OpErr) : (s.finish e).busy = s.busy := rfl
@[simp] theorem State.finish_done (s : State) (e : OpErr) : (s.finish e).done = s.done := rfl
@[simp] theorem State.finish_aborted (s : State) (e : OpErr) : (s.finish e).aborted = s.aborted := rfl
@[simp] theorem State.finish_cause (s : State) (e : OpErr) : (s.finish e).cause = s.cause := rfl
@[simp] theorem State.finish_operr (s : State) (e : OpErr) : (s.finish e).operr = e := rfl
@[simp] theorem State.finish_ackflags (s : State) (e : OpErr) : (s.finish e).ackflags = s.ackflags := rfl
@[simp] theorem State.finish_lastack (s : State) (e : OpErr) : (s.finish e).lastack = s.lastack := rfl
@[simp] theorem State.finish_history (s : State) (e : OpErr) : (s.finish e).history = s.history := rfl
@[simp] theorem State.finish_port (s : State) (e : OpErr) : (s.finish e).port = none := rfl
@[simp] theorem State.finish_host (s : State) (e : OpErr) : (s.finish e).host = s.host := rfl
@[simp] theorem State.finish_rx (s : State) (e : OpErr) : (s.finish e).rx = s.rx := rfl
@[simp] theorem State.finish_tx (s : State) (e : OpErr) : (s.finish e).tx = s.tx := rfl
@[simp] theorem State.finish_images (s : State) (e : OpErr) : (s.finish e).images = s.images := rfl

/-! ### State.performed: an operation performed -/

@[simp] theorem State.performed_cfg (s : State) : (s.performed).cfg = s.cfg := rfl
@[simp] theorem State.performed_crc (s : State) : (s.performed).crc = s.crc := rfl
@[simp] theorem State.performed_cmd (s : State) : (s.performed).cmd = s.cmd := rfl
@[simp] theorem State.performed_frm (s : State) : (s.performed).frm = s.frm := rfl
@[simp] theorem State.performed_ack (s : State) : (s.performed).ack = s.ack := rfl
@[simp] theorem State.performed_res (s : State) : (s.performed).res = s.res := rfl
@[simp] theorem State.performed_gen2 (s : State) : (s.performed).gen2 = s.gen2 := rfl
@[simp] theorem State.performed_nimg (s : State) : (s.performed).nimg = s.nimg := rfl
@[simp] theorem State.performed_size (s : State) : (s.performed).size = s.size := rfl
@[simp] theorem State.performed_seq (s : State) : (s.performed).seq = s.seq := rfl
@[simp] theorem State.performed_img (s : State) : (s.performed).img = s.img := rfl
@[simp] theorem State.performed_off (s : State) : (s.performed).off = s.off := rfl
@[simp] theorem State.performed_await (s : State) : (s.performed).await = s.await := rfl
@[simp] theorem State.performed_expect (s : State) : (s.performed).expect = s.expect := rfl
@[simp] theorem State.performed_busy (s : State) : (s.performed).busy = s.busy := rfl
@[simp] theorem State.performed_done (s : State) : (s.performed).done = s.done := rfl
@[simp] theorem State.performed_aborted (s : State) : (s.performed).aborted = s.aborted := rfl
@[simp] theorem State.performed_cause (s : State) : (s.performed).cause = s.cause := rfl
@[simp] theorem State.performed_operr (s : State) : (s.performed).operr = .none := rfl
@[simp] theorem State.performed_ackflags (s : State) : (s.performed).ackflags = s.ackflags := rfl
@[simp] theorem State.performed_lastack (s : State) : (s.performed).lastack = s.lastack := rfl
@[simp] theorem State.performed_history (s : State) : (s.performed).history = s.history := rfl
@[simp] theorem State.performed_port (s : State) : (s.performed).port = none := rfl
@[simp] theorem State.performed_host (s : State) : (s.performed).host = s.host := rfl
@[simp] theorem State.performed_rx (s : State) : (s.performed).rx = s.rx := rfl
@[simp] theorem State.performed_tx (s : State) : (s.performed).tx = s.tx := rfl
@[simp] theorem State.performed_images (s : State) : (s.performed).images = s.images := rfl

/-! ### State.refuse: a refusal -/

@[simp] theorem State.refuse_cfg (s : State) (e : OpErr) : (s.refuse e).cfg = s.cfg := rfl
@[simp] theorem State.refuse_crc (s : State) (e : OpErr) : (s.refuse e).crc = s.crc := rfl
@[simp] theorem State.refuse_cmd (s : State) (e : OpErr) : (s.refuse e).cmd = s.cmd := rfl
@[simp] theorem State.refuse_frm (s : State) (e : OpErr) : (s.refuse e).frm = s.frm := rfl
@[simp] theorem State.refuse_ack (s : State) (e : OpErr) : (s.refuse e).ack = s.ack := rfl
@[simp] theorem State.refuse_res (s : State) (e : OpErr) : (s.refuse e).res = s.res := rfl
@[simp] theorem State.refuse_gen2 (s : State) (e : OpErr) : (s.refuse e).gen2 = s.gen2 := rfl
@[simp] theorem State.refuse_nimg (s : State) (e : OpErr) : (s.refuse e).nimg = s.nimg := rfl
@[simp] theorem State.refuse_size (s : State) (e : OpErr) : (s.refuse e).size = s.size := rfl
@[simp] theorem State.refuse_seq (s : State) (e : OpErr) : (s.refuse e).seq = s.seq := rfl
@[simp] theorem State.refuse_img (s : State) (e : OpErr) : (s.refuse e).img = s.img := rfl
@[simp] theorem State.refuse_off (s : State) (e : OpErr) : (s.refuse e).off = s.off := rfl
@[simp] theorem State.refuse_await (s : State) (e : OpErr) : (s.refuse e).await = s.await := rfl
@[simp] theorem State.refuse_expect (s : State) (e : OpErr) : (s.refuse e).expect = s.expect := rfl
@[simp] theorem State.refuse_busy (s : State) (e : OpErr) : (s.refuse e).busy = s.busy := rfl
@[simp] theorem State.refuse_done (s : State) (e : OpErr) : (s.refuse e).done = s.done := rfl
@[simp] theorem State.refuse_aborted (s : State) (e : OpErr) : (s.refuse e).aborted = s.aborted := rfl
@[simp] theorem State.refuse_cause (s : State) (e : OpErr) : (s.refuse e).cause = s.cause := rfl
@[simp] theorem State.refuse_operr (s : State) (e : OpErr) : (s.refuse e).operr = e := rfl
@[simp] theorem State.refuse_ackflags (s : State) (e : OpErr) : (s.refuse e).ackflags = s.ackflags := rfl
@[simp] theorem State.refuse_lastack (s : State) (e : OpErr) : (s.refuse e).lastack = s.lastack := rfl
@[simp] theorem State.refuse_history (s : State) (e : OpErr) : (s.refuse e).history = s.history := rfl
@[simp] theorem State.refuse_port (s : State) (e : OpErr) : (s.refuse e).port = none := rfl
@[simp] theorem State.refuse_host (s : State) (e : OpErr) : (s.refuse e).host = s.host := rfl
@[simp] theorem State.refuse_rx (s : State) (e : OpErr) : (s.refuse e).rx = s.rx := rfl
@[simp] theorem State.refuse_tx (s : State) (e : OpErr) : (s.refuse e).tx = s.tx := rfl
@[simp] theorem State.refuse_images (s : State) (e : OpErr) : (s.refuse e).images = s.images := rfl

/-! ### State.record: a validation's bookkeeping -/

@[simp] theorem State.record_cfg (s : State) (v : AckKind × Byte) (k : Byte) : (s.record v k).cfg = s.cfg := rfl
@[simp] theorem State.record_crc (s : State) (v : AckKind × Byte) (k : Byte) : (s.record v k).crc = s.crc := rfl
@[simp] theorem State.record_cmd (s : State) (v : AckKind × Byte) (k : Byte) : (s.record v k).cmd = s.cmd := rfl
@[simp] theorem State.record_frm (s : State) (v : AckKind × Byte) (k : Byte) : (s.record v k).frm = s.frm := rfl
@[simp] theorem State.record_ack (s : State) (v : AckKind × Byte) (k : Byte) : (s.record v k).ack = s.ack := rfl
@[simp] theorem State.record_res (s : State) (v : AckKind × Byte) (k : Byte) : (s.record v k).res = s.res := rfl
@[simp] theorem State.record_gen2 (s : State) (v : AckKind × Byte) (k : Byte) : (s.record v k).gen2 = s.gen2 := rfl
@[simp] theorem State.record_nimg (s : State) (v : AckKind × Byte) (k : Byte) : (s.record v k).nimg = s.nimg := rfl
@[simp] theorem State.record_size (s : State) (v : AckKind × Byte) (k : Byte) : (s.record v k).size = s.size := rfl
@[simp] theorem State.record_seq (s : State) (v : AckKind × Byte) (k : Byte) : (s.record v k).seq = s.seq := rfl
@[simp] theorem State.record_img (s : State) (v : AckKind × Byte) (k : Byte) : (s.record v k).img = s.img := rfl
@[simp] theorem State.record_off (s : State) (v : AckKind × Byte) (k : Byte) : (s.record v k).off = s.off := rfl
@[simp] theorem State.record_await (s : State) (v : AckKind × Byte) (k : Byte) : (s.record v k).await = s.await := rfl
@[simp] theorem State.record_expect (s : State) (v : AckKind × Byte) (k : Byte) : (s.record v k).expect = s.expect := rfl
@[simp] theorem State.record_busy (s : State) (v : AckKind × Byte) (k : Byte) : (s.record v k).busy = s.busy := rfl
@[simp] theorem State.record_done (s : State) (v : AckKind × Byte) (k : Byte) : (s.record v k).done = s.done := rfl
@[simp] theorem State.record_aborted (s : State) (v : AckKind × Byte) (k : Byte) : (s.record v k).aborted = s.aborted := rfl
@[simp] theorem State.record_cause (s : State) (v : AckKind × Byte) (k : Byte) : (s.record v k).cause = s.cause := rfl
@[simp] theorem State.record_operr (s : State) (v : AckKind × Byte) (k : Byte) : (s.record v k).operr = s.operr := rfl
@[simp] theorem State.record_ackflags (s : State) (v : AckKind × Byte) (k : Byte) : (s.record v k).ackflags = s.ackflags ||| ackKindFlag v.1 := rfl
@[simp] theorem State.record_lastack (s : State) (v : AckKind × Byte) (k : Byte) : (s.record v k).lastack = ⟨v.1, v.2, k⟩ := rfl
@[simp] theorem State.record_history (s : State) (v : AckKind × Byte) (k : Byte) : (s.record v k).history = s.history := rfl
@[simp] theorem State.record_port (s : State) (v : AckKind × Byte) (k : Byte) : (s.record v k).port = s.port := rfl
@[simp] theorem State.record_host (s : State) (v : AckKind × Byte) (k : Byte) : (s.record v k).host = s.host := rfl
@[simp] theorem State.record_rx (s : State) (v : AckKind × Byte) (k : Byte) : (s.record v k).rx = s.rx := rfl
@[simp] theorem State.record_tx (s : State) (v : AckKind × Byte) (k : Byte) : (s.record v k).tx = s.tx := rfl
@[simp] theorem State.record_images (s : State) (v : AckKind × Byte) (k : Byte) : (s.record v k).images = s.images := rfl

/-! ### State.abort: abort entry -/

@[simp] theorem State.abort_cfg (s : State) (c : Cause) : (s.abort c).cfg = s.cfg := rfl
@[simp] theorem State.abort_crc (s : State) (c : Cause) : (s.abort c).crc = s.crc := rfl
@[simp] theorem State.abort_cmd (s : State) (c : Cause) : (s.abort c).cmd = s.cmd := rfl
@[simp] theorem State.abort_frm (s : State) (c : Cause) : (s.abort c).frm = s.frm := rfl
@[simp] theorem State.abort_ack (s : State) (c : Cause) : (s.abort c).ack = s.ack := rfl
@[simp] theorem State.abort_res (s : State) (c : Cause) : (s.abort c).res = s.res := rfl
@[simp] theorem State.abort_gen2 (s : State) (c : Cause) : (s.abort c).gen2 = s.gen2 := rfl
@[simp] theorem State.abort_nimg (s : State) (c : Cause) : (s.abort c).nimg = s.nimg := rfl
@[simp] theorem State.abort_size (s : State) (c : Cause) : (s.abort c).size = s.size := rfl
@[simp] theorem State.abort_seq (s : State) (c : Cause) : (s.abort c).seq = .aborted := rfl
@[simp] theorem State.abort_img (s : State) (c : Cause) : (s.abort c).img = s.img := rfl
@[simp] theorem State.abort_off (s : State) (c : Cause) : (s.abort c).off = s.off := rfl
@[simp] theorem State.abort_await (s : State) (c : Cause) : (s.abort c).await = false := rfl
@[simp] theorem State.abort_expect (s : State) (c : Cause) : (s.abort c).expect = s.expect := rfl
@[simp] theorem State.abort_busy (s : State) (c : Cause) : (s.abort c).busy = false := rfl
@[simp] theorem State.abort_done (s : State) (c : Cause) : (s.abort c).done = s.done := rfl
@[simp] theorem State.abort_aborted (s : State) (c : Cause) : (s.abort c).aborted = true := rfl
@[simp] theorem State.abort_cause (s : State) (c : Cause) : (s.abort c).cause = c := rfl
@[simp] theorem State.abort_operr (s : State) (c : Cause) : (s.abort c).operr = s.operr := rfl
@[simp] theorem State.abort_ackflags (s : State) (c : Cause) : (s.abort c).ackflags = s.ackflags := rfl
@[simp] theorem State.abort_lastack (s : State) (c : Cause) : (s.abort c).lastack = s.lastack := rfl
@[simp] theorem State.abort_history (s : State) (c : Cause) : (s.abort c).history = s.history := rfl
@[simp] theorem State.abort_port (s : State) (c : Cause) : (s.abort c).port = s.port := rfl
@[simp] theorem State.abort_host (s : State) (c : Cause) : (s.abort c).host = s.host := rfl
@[simp] theorem State.abort_rx (s : State) (c : Cause) : (s.abort c).rx = s.rx := rfl
@[simp] theorem State.abort_tx (s : State) (c : Cause) : (s.abort c).tx = s.tx := rfl
@[simp] theorem State.abort_images (s : State) (c : Cause) : (s.abort c).images = s.images := rfl

/-! ### State.build: a build -/

@[simp] theorem State.build_cfg (s : State) (c : List Byte) : (s.build c).cfg = s.cfg := rfl
@[simp] theorem State.build_crc (s : State) (c : List Byte) : (s.build c).crc = crc16 crcInitial (payload c) := rfl
@[simp] theorem State.build_cmd (s : State) (c : List Byte) : (s.build c).cmd = c := rfl
@[simp] theorem State.build_frm (s : State) (c : List Byte) : (s.build c).frm = s.frm := rfl
@[simp] theorem State.build_ack (s : State) (c : List Byte) : (s.build c).ack = s.ack := rfl
@[simp] theorem State.build_res (s : State) (c : List Byte) : (s.build c).res = s.res := rfl
@[simp] theorem State.build_gen2 (s : State) (c : List Byte) : (s.build c).gen2 = s.gen2 := rfl
@[simp] theorem State.build_nimg (s : State) (c : List Byte) : (s.build c).nimg = s.nimg := rfl
@[simp] theorem State.build_size (s : State) (c : List Byte) : (s.build c).size = s.size := rfl
@[simp] theorem State.build_seq (s : State) (c : List Byte) : (s.build c).seq = s.seq := rfl
@[simp] theorem State.build_img (s : State) (c : List Byte) : (s.build c).img = s.img := rfl
@[simp] theorem State.build_off (s : State) (c : List Byte) : (s.build c).off = s.off := rfl
@[simp] theorem State.build_await (s : State) (c : List Byte) : (s.build c).await = s.await := rfl
@[simp] theorem State.build_expect (s : State) (c : List Byte) : (s.build c).expect = s.expect := rfl
@[simp] theorem State.build_busy (s : State) (c : List Byte) : (s.build c).busy = s.busy := rfl
@[simp] theorem State.build_done (s : State) (c : List Byte) : (s.build c).done = s.done := rfl
@[simp] theorem State.build_aborted (s : State) (c : List Byte) : (s.build c).aborted = s.aborted := rfl
@[simp] theorem State.build_cause (s : State) (c : List Byte) : (s.build c).cause = s.cause := rfl
@[simp] theorem State.build_operr (s : State) (c : List Byte) : (s.build c).operr = s.operr := rfl
@[simp] theorem State.build_ackflags (s : State) (c : List Byte) : (s.build c).ackflags = s.ackflags := rfl
@[simp] theorem State.build_lastack (s : State) (c : List Byte) : (s.build c).lastack = s.lastack := rfl
@[simp] theorem State.build_history (s : State) (c : List Byte) : (s.build c).history = s.history := rfl
@[simp] theorem State.build_port (s : State) (c : List Byte) : (s.build c).port = s.port := rfl
@[simp] theorem State.build_host (s : State) (c : List Byte) : (s.build c).host = s.host := rfl
@[simp] theorem State.build_rx (s : State) (c : List Byte) : (s.build c).rx = s.rx := rfl
@[simp] theorem State.build_tx (s : State) (c : List Byte) : (s.build c).tx = s.tx := rfl
@[simp] theorem State.build_images (s : State) (c : List Byte) : (s.build c).images = s.images := rfl

/-! ### State.expectAck: the start of a wait -/

@[simp] theorem State.expectAck_cfg (s : State) (k : Byte) : (s.expectAck k).cfg = s.cfg := rfl
@[simp] theorem State.expectAck_crc (s : State) (k : Byte) : (s.expectAck k).crc = s.crc := rfl
@[simp] theorem State.expectAck_cmd (s : State) (k : Byte) : (s.expectAck k).cmd = s.cmd := rfl
@[simp] theorem State.expectAck_frm (s : State) (k : Byte) : (s.expectAck k).frm = s.frm := rfl
@[simp] theorem State.expectAck_ack (s : State) (k : Byte) : (s.expectAck k).ack = s.ack := rfl
@[simp] theorem State.expectAck_res (s : State) (k : Byte) : (s.expectAck k).res = s.res := rfl
@[simp] theorem State.expectAck_gen2 (s : State) (k : Byte) : (s.expectAck k).gen2 = s.gen2 := rfl
@[simp] theorem State.expectAck_nimg (s : State) (k : Byte) : (s.expectAck k).nimg = s.nimg := rfl
@[simp] theorem State.expectAck_size (s : State) (k : Byte) : (s.expectAck k).size = s.size := rfl
@[simp] theorem State.expectAck_seq (s : State) (k : Byte) : (s.expectAck k).seq = s.seq := rfl
@[simp] theorem State.expectAck_img (s : State) (k : Byte) : (s.expectAck k).img = s.img := rfl
@[simp] theorem State.expectAck_off (s : State) (k : Byte) : (s.expectAck k).off = s.off := rfl
@[simp] theorem State.expectAck_await (s : State) (k : Byte) : (s.expectAck k).await = true := rfl
@[simp] theorem State.expectAck_expect (s : State) (k : Byte) : (s.expectAck k).expect = k := rfl
@[simp] theorem State.expectAck_busy (s : State) (k : Byte) : (s.expectAck k).busy = s.busy := rfl
@[simp] theorem State.expectAck_done (s : State) (k : Byte) : (s.expectAck k).done = s.done := rfl
@[simp] theorem State.expectAck_aborted (s : State) (k : Byte) : (s.expectAck k).aborted = s.aborted := rfl
@[simp] theorem State.expectAck_cause (s : State) (k : Byte) : (s.expectAck k).cause = s.cause := rfl
@[simp] theorem State.expectAck_operr (s : State) (k : Byte) : (s.expectAck k).operr = s.operr := rfl
@[simp] theorem State.expectAck_ackflags (s : State) (k : Byte) : (s.expectAck k).ackflags = s.ackflags := rfl
@[simp] theorem State.expectAck_lastack (s : State) (k : Byte) : (s.expectAck k).lastack = s.lastack := rfl
@[simp] theorem State.expectAck_history (s : State) (k : Byte) : (s.expectAck k).history = s.history := rfl
@[simp] theorem State.expectAck_port (s : State) (k : Byte) : (s.expectAck k).port = s.port := rfl
@[simp] theorem State.expectAck_host (s : State) (k : Byte) : (s.expectAck k).host = s.host := rfl
@[simp] theorem State.expectAck_rx (s : State) (k : Byte) : (s.expectAck k).rx = s.rx := rfl
@[simp] theorem State.expectAck_tx (s : State) (k : Byte) : (s.expectAck k).tx = s.tx := rfl
@[simp] theorem State.expectAck_images (s : State) (k : Byte) : (s.expectAck k).images = s.images := rfl

/-! ### State.applyReset -/

@[simp] theorem State.applyReset_cfg (s : State) : s.applyReset.cfg = s.cfg := rfl
@[simp] theorem State.applyReset_crc (s : State) : s.applyReset.crc = 0xFFFF := rfl
@[simp] theorem State.applyReset_cmd (s : State) : s.applyReset.cmd = [] := rfl
@[simp] theorem State.applyReset_frm (s : State) : s.applyReset.frm = [] := rfl
@[simp] theorem State.applyReset_ack (s : State) : s.applyReset.ack = [] := rfl
@[simp] theorem State.applyReset_res (s : State) : s.applyReset.res = 0 := rfl
@[simp] theorem State.applyReset_gen2 (s : State) : s.applyReset.gen2 = false := rfl
@[simp] theorem State.applyReset_nimg (s : State) : s.applyReset.nimg = 2 := rfl
@[simp] theorem State.applyReset_size (s : State) : s.applyReset.size = #v[0, 0, 0] := rfl
@[simp] theorem State.applyReset_seq (s : State) : s.applyReset.seq = .start := rfl
@[simp] theorem State.applyReset_img (s : State) : s.applyReset.img = 0 := rfl
@[simp] theorem State.applyReset_off (s : State) : s.applyReset.off = 0 := rfl
@[simp] theorem State.applyReset_await (s : State) : s.applyReset.await = false := rfl
@[simp] theorem State.applyReset_expect (s : State) : s.applyReset.expect = 0 := rfl
@[simp] theorem State.applyReset_busy (s : State) : s.applyReset.busy = false := rfl
@[simp] theorem State.applyReset_done (s : State) : s.applyReset.done = false := rfl
@[simp] theorem State.applyReset_aborted (s : State) : s.applyReset.aborted = false := rfl
@[simp] theorem State.applyReset_cause (s : State) : s.applyReset.cause = .none := rfl
@[simp] theorem State.applyReset_operr (s : State) : s.applyReset.operr = .none := rfl
@[simp] theorem State.applyReset_ackflags (s : State) : s.applyReset.ackflags = 0 := rfl
@[simp] theorem State.applyReset_lastack (s : State) : s.applyReset.lastack = ⟨.ok, 0, 0⟩ := rfl
@[simp] theorem State.applyReset_history (s : State) : s.applyReset.history = [] := rfl
@[simp] theorem State.applyReset_port (s : State) : s.applyReset.port = none := rfl
@[simp] theorem State.applyReset_host (s : State) : s.applyReset.host = s.host := rfl
@[simp] theorem State.applyReset_rx (s : State) : s.applyReset.rx = s.rx := rfl
@[simp] theorem State.applyReset_tx (s : State) : s.applyReset.tx = s.tx := rfl
@[simp] theorem State.applyReset_images (s : State) : s.applyReset.images = s.images := rfl

/-! ### State.reset -/

@[simp] theorem State.reset_cfg : State.reset.cfg = Config.params := rfl
@[simp] theorem State.reset_crc : State.reset.crc = 0xFFFF := rfl
@[simp] theorem State.reset_cmd : State.reset.cmd = [] := rfl
@[simp] theorem State.reset_frm : State.reset.frm = [] := rfl
@[simp] theorem State.reset_ack : State.reset.ack = [] := rfl
@[simp] theorem State.reset_res : State.reset.res = 0 := rfl
@[simp] theorem State.reset_gen2 : State.reset.gen2 = false := rfl
@[simp] theorem State.reset_nimg : State.reset.nimg = 2 := rfl
@[simp] theorem State.reset_size : State.reset.size = #v[0, 0, 0] := rfl
@[simp] theorem State.reset_seq : State.reset.seq = .start := rfl
@[simp] theorem State.reset_img : State.reset.img = 0 := rfl
@[simp] theorem State.reset_off : State.reset.off = 0 := rfl
@[simp] theorem State.reset_await : State.reset.await = false := rfl
@[simp] theorem State.reset_expect : State.reset.expect = 0 := rfl
@[simp] theorem State.reset_busy : State.reset.busy = false := rfl
@[simp] theorem State.reset_done : State.reset.done = false := rfl
@[simp] theorem State.reset_aborted : State.reset.aborted = false := rfl
@[simp] theorem State.reset_cause : State.reset.cause = .none := rfl
@[simp] theorem State.reset_operr : State.reset.operr = .none := rfl
@[simp] theorem State.reset_ackflags : State.reset.ackflags = 0 := rfl
@[simp] theorem State.reset_lastack : State.reset.lastack = ⟨.ok, 0, 0⟩ := rfl
@[simp] theorem State.reset_history : State.reset.history = [] := rfl
@[simp] theorem State.reset_port : State.reset.port = none := rfl
@[simp] theorem State.reset_host : State.reset.host = [] := rfl
@[simp] theorem State.reset_rx : State.reset.rx = [] := rfl
@[simp] theorem State.reset_tx : State.reset.tx = [] := rfl
@[simp] theorem State.reset_images : State.reset.images = #v[[], [], []] := rfl

end Sys2Proof.Machine
end

