-- ==== Sys2Proof/Laws/Ops.lean ====
section
/-! SUPPORT. For each shared operation, once, everything it can do. -/
namespace Sys2Proof.Machine

/-! ### The port -/

theorem whenIdle_idle {s : State} {body : Result} (h : s.isIdle = true) : s.whenIdle body = body := by
  simp [State.whenIdle, h]

theorem whenIdle_not_idle {s : State} {body : Result} (h : s.isIdle = false) :
    s.whenIdle body = .next (s.refuse .busy) := by
  simp [State.whenIdle, h]

theorem whenIdle_next {s t : State} {body : Result} (h : s.whenIdle body = .next t) :
    (s.isIdle = true ∧ body = .next t) ∨ (s.isIdle = false ∧ t = s.refuse .busy) := by
  unfold State.whenIdle at h
  split at h
  · exact .inl ⟨‹_›, h⟩
  · rename_i hc
    exact .inr ⟨by simpa only [Bool.not_eq_true] using hc, by cases h; rfl⟩

theorem isIdle_iff (s : State) : s.isIdle = true ↔ s.busy = false ∧ s.seq = .start := by
  simp [State.isIdle]

/-! ### The streams -/

theorem txWrite_none {s : State} {b : List Byte} : s.txWrite b = none ↔ s.tx = [] := by
  unfold State.txWrite; split <;> simp_all

theorem txWrite_some {s t : State} {b : List Byte} {r : TxResult} (h : s.txWrite b = some (r, t)) :
    ∃ rest, s.tx = r :: rest ∧ t = { s with tx := rest, history := s.history ++ [.tx b r] } := by
  unfold State.txWrite at h
  split at h
  · cases h
  · cases h; exact ⟨_, ‹_›, rfl⟩

theorem rxRead_none {s : State} : s.rxRead = none ↔ s.rx = [] := by
  unfold State.rxRead; split <;> simp_all

theorem rxRead_error {s t : State} (h : s.rxRead = some (.error, t)) :
    ∃ rest, s.rx = .error :: rest ∧ t = { s with rx := rest, history := s.history ++ [.rx .error] } := by
  unfold State.rxRead at h
  split at h
  · cases h
  · cases h; exact ⟨_, ‹_›, rfl⟩
  · cases h

/-- A read that returns: the first `ACK_BUF_LEN` bytes of what was delivered, in `ACK` and in the history. -/
theorem rxRead_burst {s t : State} {r : List Byte} (h : s.rxRead = some (.burst r, t)) :
    ∃ d rest, s.rx = .burst d :: rest ∧ r = d.take (ackBufLen s.cfg) ∧
      t = { s with
            rx := if d.drop (ackBufLen s.cfg) = [] then rest else .burst (d.drop (ackBufLen s.cfg)) :: rest
            ack := r
            history := s.history ++ [.rx (.burst r)] } := by
  unfold State.rxRead at h
  split at h
  · cases h
  · cases h
  · cases h; exact ⟨_, _, ‹_›, rfl, rfl⟩

theorem rxRead_burst_length {s t : State} {r : List Byte} (h : s.rxRead = some (.burst r, t)) :
    r.length ≤ ackBufLen s.cfg := by
  obtain ⟨d, rest, -, rfl, -⟩ := rxRead_burst h
  simp only [List.length_take]; omega

@[simp] theorem imgRead_length (s : State) (p : Pos) (off n : Nat) : (s.imgRead p off n).length = n := by
  simp only [State.imgRead, List.length_append, List.length_map, List.length_range, List.length_take]
  omega

/-- A read of the image source, byte by byte. -/
theorem imgRead_eq_map (s : State) (p : Pos) (off n : Nat) :
    s.imgRead p off n = (List.range n).map fun k => s.imageByte p (off + k) := by
  apply List.ext_getElem (by simp)
  intro i hi hn
  simp only [List.length_map, List.length_range] at hn
  simp only [State.imgRead, List.getElem_map, List.getElem_range, List.getElem_append, List.length_take,
    List.length_drop]
  split
  · simp only [List.getElem_take, List.getElem_drop, State.imageByte, List.getD_eq_getElem?_getD]
    rw [List.getElem?_eq_getElem (by omega), Option.getD_some]
  · congr 1; omega

/-! ### Steps -/

theorem whenSelected_selected {s : State} {i : Instr} {body : Result} (h : s.selected = some i) :
    s.whenSelected i body = body := by
  simp [State.whenSelected, h]

theorem whenSelected_next {s t : State} {i : Instr} {body : Result} (h : s.whenSelected i body = .next t) :
    s.selected = some i ∧ body = .next t := by
  unfold State.whenSelected at h
  split at h
  · exact ⟨‹_›, h⟩
  · cases h

/-- A sending step waits, succeeds, or aborts. -/
theorem transmit_next {s before t : State} {b : List Byte} {after : State → State}
    (h : s.transmit before b after = .next t) :
    (before.tx = [] ∧ t = s) ∨
    (∃ rest, before.tx = .ok :: rest ∧
      t = after { before with tx := rest, history := before.history ++ [.tx b .ok] }) ∨
    (∃ rest, before.tx = .failed :: rest ∧
      t = State.abort { before with tx := rest, history := before.history ++ [.tx b .failed] } .transportTx) := by
  unfold State.transmit at h
  split at h
  · exact .inl ⟨txWrite_none.mp ‹_›, by cases h; rfl⟩
  · obtain ⟨rest, hr, rfl⟩ := txWrite_some ‹_›
    exact .inr (.inl ⟨rest, hr, by cases h; rfl⟩)
  · obtain ⟨rest, hr, rfl⟩ := txWrite_some ‹_›
    exact .inr (.inr ⟨rest, hr, by cases h; rfl⟩)

/-- A sending step answers a next state in every case. -/
theorem transmit_is_next (s before : State) (b : List Byte) (after : State → State) :
    ∃ t, s.transmit before b after = .next t := by
  unfold State.transmit
  split <;> exact ⟨_, rfl⟩

/-- An awaiting step waits, aborts on a failed read, aborts on a bad acknowledgment where that is fatal, or goes on. -/
theorem awaitAck_next {s t : State} {k : Byte} {after : State → State} (h : s.awaitAck k after = .next t) :
    (s.rx = [] ∧ t = s) ∨
    (∃ u, s.rxRead = some (.error, u) ∧ t = u.abort .transportRx) ∨
    (∃ r u, s.rxRead = some (.burst r, u) ∧ (validate r k).1 ≠ .ok ∧ s.cfg.ackFatal = true ∧
      t = (u.record (validate r k) k).abort .ackFatal) ∨
    (∃ r u, s.rxRead = some (.burst r, u) ∧ ((validate r k).1 = .ok ∨ s.cfg.ackFatal = false) ∧
      t = after (u.record (validate r k) k)) := by
  unfold State.awaitAck at h
  split at h
  · exact .inl ⟨rxRead_none.mp ‹_›, by cases h; rfl⟩
  · exact .inr (.inl ⟨_, ‹_›, by cases h; rfl⟩)
  · simp only at h
    split at h
    · rename_i hc
      exact .inr (.inr (.inl ⟨_, _, ‹_›, hc.1, hc.2, by cases h; rfl⟩))
    · rename_i hc
      refine .inr (.inr (.inr ⟨_, _, ‹_›, ?_, by cases h; rfl⟩))
      rcases Classical.not_and_iff_not_or_not.mp hc with hv | hv
      · exact .inl (Decidable.not_not.mp hv)
      · exact .inr (by simpa only [Bool.not_eq_true] using hv)

/-- An awaiting step answers a next state in every case. -/
theorem awaitAck_is_next (s : State) (k : Byte) (after : State → State) :
    ∃ t, s.awaitAck k after = .next t := by
  unfold State.awaitAck
  split
  · exact ⟨_, rfl⟩
  · exact ⟨_, rfl⟩
  · simp only
    split <;> exact ⟨_, rfl⟩

theorem nextImg_some {s : State} {j : Pos} (h : s.nextImg = some j) : j.val = s.img.val + 1 := by
  unfold State.nextImg at h
  split at h <;> cases h
  rfl

/-! ### The selection of a step (spec/30_encoding.md R85) -/

theorem selected_sHelloTx (s : State) :
    s.selected = some .sHelloTx ↔ s.busy = true ∧ s.seq = .start ∧ s.await = false := by
  unfold State.selected State.selector
  cases s.busy <;> cases s.seq <;> cases s.await <;> cases s.last <;> decide

theorem selected_sHelloAck (s : State) :
    s.selected = some .sHelloAck ↔ s.busy = true ∧ s.seq = .start ∧ s.await = true := by
  unfold State.selected State.selector
  cases s.busy <;> cases s.seq <;> cases s.await <;> cases s.last <;> decide

theorem selected_sOpenTxFirst (s : State) :
    s.selected = some .sOpenTxFirst ↔ s.busy = true ∧ s.seq = .helloSent ∧ s.await = false := by
  unfold State.selected State.selector
  cases s.busy <;> cases s.seq <;> cases s.await <;> cases s.last <;> decide

theorem selected_sOpenTxNext (s : State) :
    s.selected = some .sOpenTxNext ↔
      s.busy = true ∧ s.seq = .imageAcked ∧ s.await = false ∧ s.last = false := by
  unfold State.selected State.selector
  cases s.busy <;> cases s.seq <;> cases s.await <;> cases s.last <;> decide

theorem selected_sOpenAckFirst (s : State) :
    s.selected = some .sOpenAckFirst ↔ s.busy = true ∧ s.seq = .helloSent ∧ s.await = true := by
  unfold State.selected State.selector
  cases s.busy <;> cases s.seq <;> cases s.await <;> cases s.last <;> decide

theorem selected_sOpenAckNext (s : State) :
    s.selected = some .sOpenAckNext ↔ s.busy = true ∧ s.seq = .imageAcked ∧ s.await = true := by
  unfold State.selected State.selector
  cases s.busy <;> cases s.seq <;> cases s.await <;> cases s.last <;> decide

theorem selected_sTrailerTx (s : State) :
    s.selected = some .sTrailerTx ↔ s.busy = true ∧ s.seq = .imageOpen ∧ s.await = false := by
  unfold State.selected State.selector
  cases s.busy <;> cases s.seq <;> cases s.await <;> cases s.last <;> decide

theorem selected_sChunk (s : State) :
    s.selected = some .sChunk ↔ s.busy = true ∧ s.seq = .imageStreaming ∧ s.await = false := by
  unfold State.selected State.selector
  cases s.busy <;> cases s.seq <;> cases s.await <;> cases s.last <;> decide

theorem selected_sDataAck (s : State) :
    s.selected = some .sDataAck ↔ s.busy = true ∧ s.seq = .imageStreaming ∧ s.await = true := by
  unfold State.selected State.selector
  cases s.busy <;> cases s.seq <;> cases s.await <;> cases s.last <;> decide

theorem selected_sCloseTx (s : State) :
    s.selected = some .sCloseTx ↔
      s.busy = true ∧ s.seq = .imageAcked ∧ s.await = false ∧ s.last = true := by
  unfold State.selected State.selector
  cases s.busy <;> cases s.seq <;> cases s.await <;> cases s.last <;> decide

theorem selected_sFinish (s : State) :
    s.selected = some .sFinish ↔ s.busy = true ∧ s.seq = .closing ∧ s.await = false := by
  unfold State.selected State.selector
  cases s.busy <;> cases s.seq <;> cases s.await <;> cases s.last <;> decide

end Sys2Proof.Machine
end

