-- ==== Sys2Proof/Laws/PerInstr.lean ====
section
/-! SUPPORT. Per instruction: its code lies in its row of spec/opcode_table.json (mask and match as the table prints them). -/
namespace Sys2Proof.Laws

/-- A row's mask and match, at the width of its format. -/
inductive Row where
  | rq (mask value : RequestWord)
  | step (mask value : Selector)
deriving DecidableEq, Repr

/-- The row of spec/opcode_table.json of an instruction. -/
def rowOf : Instr → Row
  | .crcInit => .rq 0xFF0000000000000000#72 0x000000000000000000#72
  | .crcLoad _ => .rq 0xFF0000000000000000#72 0x010000000000000000#72
  | .crcStep _ => .rq 0xFF0000000000000000#72 0x020000000000000000#72
  | .crcBuf _ => .rq 0xFF0000000000000000#72 0x030000000000000000#72
  | .crcFinal => .rq 0xFF0000000000000000#72 0x040000000000000000#72
  | .frmEsc => .rq 0xFF0000000000000000#72 0x100000000000000000#72
  | .frmEnc => .rq 0xFF0000000000000000#72 0x110000000000000000#72
  | .frmRaw => .rq 0xFF0000000000000000#72 0x120000000000000000#72
  | .frmUnesc => .rq 0xFF0000000000000000#72 0x130000000000000000#72
  | .frmDec => .rq 0xFF0000000000000000#72 0x140000000000000000#72
  | .txSend => .rq 0xFF0000000000000000#72 0x150000000000000000#72
  | .frmClr => .rq 0xFF0000000000000000#72 0x160000000000000000#72
  | .frmPut _ => .rq 0xFF0000000000000000#72 0x170000000000000000#72
  | .cmdClr => .rq 0xFF0000000000000000#72 0x200000000000000000#72
  | .cmdPut _ => .rq 0xFF0000000000000000#72 0x210000000000000000#72
  | .cmdLoad _ => .rq 0xFF0000000000000000#72 0x220000000000000000#72
  | .cmdPut32 _ _ => .rq 0xFF0000000000000000#72 0x230000000000000000#72
  | .cmdInc2 _ => .rq 0xFF0000000000000000#72 0x240000000000000000#72
  | .cmdCrcpatch => .rq 0xFF0000000000000000#72 0x250000000000000000#72
  | .cmdHello _ => .rq 0xFF0000000000000000#72 0x280000000000000000#72
  | .cmdOpen _ _ => .rq 0xFF0000000000000000#72 0x290000000000000000#72
  | .cmdTrailer _ _ => .rq 0xFF0000000000000000#72 0x2A0000000000000000#72
  | .cmdClose => .rq 0xFF0000000000000000#72 0x2B0000000000000000#72
  | .ackClr => .rq 0xFF0000000000000000#72 0x300000000000000000#72
  | .ackPut _ => .rq 0xFF0000000000000000#72 0x310000000000000000#72
  | .ackRecv => .rq 0xFF0000000000000000#72 0x320000000000000000#72
  | .ackCheck _ => .rq 0xFF0000000000000000#72 0x330000000000000000#72
  | .seqRun => .rq 0xFF0000000000000000#72 0x400000000000000000#72
  | .regWr _ _ => .rq 0xFF0000000000000000#72 0x500000000000000000#72
  | .regRd _ => .rq 0xFF0000000000000000#72 0x510000000000000000#72
  | .bufRd _ _ => .rq 0xFF0000000000000000#72 0x520000000000000000#72
  | .sHelloTx => .step 0b111110#6 0b000000#6
  | .sHelloAck => .step 0b111110#6 0b000010#6
  | .sOpenTxFirst => .step 0b111110#6 0b000100#6
  | .sOpenTxNext => .step 0b111111#6 0b010000#6
  | .sOpenAckFirst => .step 0b111110#6 0b000110#6
  | .sOpenAckNext => .step 0b111110#6 0b010010#6
  | .sTrailerTx => .step 0b111110#6 0b001000#6
  | .sChunk => .step 0b111110#6 0b001100#6
  | .sDataAck => .step 0b111110#6 0b001110#6
  | .sCloseTx => .step 0b111111#6 0b010001#6
  | .sFinish => .step 0b111110#6 0b010100#6

/-- The code of an instruction and its row agree under the row's mask. -/
def RowMatch.Statement (i : Instr) : Prop :=
  match encode i, rowOf i with
  | .request w, .rq mask value => w &&& mask = value
  | .selector sel, .step mask value => sel &&& mask = value
  | _, _ => False

/-- The mask of format RQ keeps the operation code alone. -/
theorem RowMatch.masked (op : Byte) (a1 a0 : Word32) (value : RequestWord) (h : requestWord op 0 0 = value) :
    requestWord op a1 a0 &&& 0xFF0000000000000000#72 = value := by
  have hm : (0xFF0000000000000000#72 : RequestWord) = requestWord 0xFF 0 0 := by decide
  rw [hm, ← h]
  unfold requestWord
  rw [BitVec.and_append, BitVec.and_append]
  simp only [BitVec.ofNat_eq_ofNat, BitVec.and_zero]
  congr 2
  exact BitVec.and_allOnes

theorem RowMatch.crcInit : RowMatch.Statement (.crcInit) := RowMatch.masked _ _ _ _ (by decide)
theorem RowMatch.crcLoad (init : Word16) : RowMatch.Statement (.crcLoad init) := RowMatch.masked _ _ _ _ (by decide)
theorem RowMatch.crcStep (b : Byte) : RowMatch.Statement (.crcStep b) := RowMatch.masked _ _ _ _ (by decide)
theorem RowMatch.crcBuf (n : Word32) : RowMatch.Statement (.crcBuf n) := RowMatch.masked _ _ _ _ (by decide)
theorem RowMatch.crcFinal : RowMatch.Statement (.crcFinal) := RowMatch.masked _ _ _ _ (by decide)
theorem RowMatch.frmEsc : RowMatch.Statement (.frmEsc) := RowMatch.masked _ _ _ _ (by decide)
theorem RowMatch.frmEnc : RowMatch.Statement (.frmEnc) := RowMatch.masked _ _ _ _ (by decide)
theorem RowMatch.frmRaw : RowMatch.Statement (.frmRaw) := RowMatch.masked _ _ _ _ (by decide)
theorem RowMatch.frmUnesc : RowMatch.Statement (.frmUnesc) := RowMatch.masked _ _ _ _ (by decide)
theorem RowMatch.frmDec : RowMatch.Statement (.frmDec) := RowMatch.masked _ _ _ _ (by decide)
theorem RowMatch.txSend : RowMatch.Statement (.txSend) := RowMatch.masked _ _ _ _ (by decide)
theorem RowMatch.frmClr : RowMatch.Statement (.frmClr) := RowMatch.masked _ _ _ _ (by decide)
theorem RowMatch.frmPut (b : Byte) : RowMatch.Statement (.frmPut b) := RowMatch.masked _ _ _ _ (by decide)
theorem RowMatch.cmdClr : RowMatch.Statement (.cmdClr) := RowMatch.masked _ _ _ _ (by decide)
theorem RowMatch.cmdPut (b : Byte) : RowMatch.Statement (.cmdPut b) := RowMatch.masked _ _ _ _ (by decide)
theorem RowMatch.cmdLoad (t : Word32) : RowMatch.Statement (.cmdLoad t) := RowMatch.masked _ _ _ _ (by decide)
theorem RowMatch.cmdPut32 (o v : Word32) : RowMatch.Statement (.cmdPut32 o v) := RowMatch.masked _ _ _ _ (by decide)
theorem RowMatch.cmdInc2 (o : Word32) : RowMatch.Statement (.cmdInc2 o) := RowMatch.masked _ _ _ _ (by decide)
theorem RowMatch.cmdCrcpatch : RowMatch.Statement (.cmdCrcpatch) := RowMatch.masked _ _ _ _ (by decide)
theorem RowMatch.cmdHello (g : Bool) : RowMatch.Statement (.cmdHello g) := RowMatch.masked _ _ _ _ (by decide)
theorem RowMatch.cmdOpen (p size : Word32) : RowMatch.Statement (.cmdOpen p size) := RowMatch.masked _ _ _ _ (by decide)
theorem RowMatch.cmdTrailer (p size : Word32) : RowMatch.Statement (.cmdTrailer p size) := RowMatch.masked _ _ _ _ (by decide)
theorem RowMatch.cmdClose : RowMatch.Statement (.cmdClose) := RowMatch.masked _ _ _ _ (by decide)
theorem RowMatch.ackClr : RowMatch.Statement (.ackClr) := RowMatch.masked _ _ _ _ (by decide)
theorem RowMatch.ackPut (b : Byte) : RowMatch.Statement (.ackPut b) := RowMatch.masked _ _ _ _ (by decide)
theorem RowMatch.ackRecv : RowMatch.Statement (.ackRecv) := RowMatch.masked _ _ _ _ (by decide)
theorem RowMatch.ackCheck (k : Byte) : RowMatch.Statement (.ackCheck k) := RowMatch.masked _ _ _ _ (by decide)
theorem RowMatch.seqRun : RowMatch.Statement (.seqRun) := RowMatch.masked _ _ _ _ (by decide)
theorem RowMatch.regWr (r v : Word32) : RowMatch.Statement (.regWr r v) := RowMatch.masked _ _ _ _ (by decide)
theorem RowMatch.regRd (r : Word32) : RowMatch.Statement (.regRd r) := RowMatch.masked _ _ _ _ (by decide)
theorem RowMatch.bufRd (space index : Word32) : RowMatch.Statement (.bufRd space index) := RowMatch.masked _ _ _ _ (by decide)
theorem RowMatch.sHelloTx : RowMatch.Statement .sHelloTx :=
  (by decide : selectorWord 0 false false &&& 0b111110#6 = 0b000000#6)
theorem RowMatch.sHelloAck : RowMatch.Statement .sHelloAck :=
  (by decide : selectorWord 0 true false &&& 0b111110#6 = 0b000010#6)
theorem RowMatch.sOpenTxFirst : RowMatch.Statement .sOpenTxFirst :=
  (by decide : selectorWord 1 false false &&& 0b111110#6 = 0b000100#6)
theorem RowMatch.sOpenTxNext : RowMatch.Statement .sOpenTxNext :=
  (by decide : selectorWord 4 false false &&& 0b111111#6 = 0b010000#6)
theorem RowMatch.sOpenAckFirst : RowMatch.Statement .sOpenAckFirst :=
  (by decide : selectorWord 1 true false &&& 0b111110#6 = 0b000110#6)
theorem RowMatch.sOpenAckNext : RowMatch.Statement .sOpenAckNext :=
  (by decide : selectorWord 4 true false &&& 0b111110#6 = 0b010010#6)
theorem RowMatch.sTrailerTx : RowMatch.Statement .sTrailerTx :=
  (by decide : selectorWord 2 false false &&& 0b111110#6 = 0b001000#6)
theorem RowMatch.sChunk : RowMatch.Statement .sChunk :=
  (by decide : selectorWord 3 false false &&& 0b111110#6 = 0b001100#6)
theorem RowMatch.sDataAck : RowMatch.Statement .sDataAck :=
  (by decide : selectorWord 3 true false &&& 0b111110#6 = 0b001110#6)
theorem RowMatch.sCloseTx : RowMatch.Statement .sCloseTx :=
  (by decide : selectorWord 4 false true &&& 0b111111#6 = 0b010001#6)
theorem RowMatch.sFinish : RowMatch.Statement .sFinish :=
  (by decide : selectorWord 5 false false &&& 0b111110#6 = 0b010100#6)

end Sys2Proof.Laws
end

