-- ==== Sys2Proof/Laws/Pseudo.lean ====
section
/-! SUPPORT. What running a program can do, one request at a time. -/
namespace Sys2Proof.Machine

/-- The presented request is one whose code decodes to the instruction. -/
theorem present_request {i : Instr} {w : RequestWord} (h : encode i = .request w) (s : State) :
    s.present i = { s with port := some w } := by
  simp [State.present, h]

@[simp] theorem present_isIdle (s : State) (i : Instr) : (s.present i).isIdle = s.isIdle := by
  unfold State.present; split <;> rfl

@[simp] theorem execAll_nil (s : State) : execAll [] s = .next s := rfl

/-- While a request stands at the port no other is accepted. -/
theorem execAll_occupied {s : State} (h : s.port ≠ none) (p : List Instr) : execAll p s = .next s := by
  cases p <;> simp [execAll, h]

/-- A free port takes the next request; what follows runs from the state that it leaves. -/
theorem execAll_cons {s t : State} {i : Instr} (hp : s.port = none) (h : exec i (s.present i) = .next t) (rest : List Instr) :
    execAll (i :: rest) s = execAll rest t := by
  simp [execAll, hp, h]

/-- A program that answers a next state has none left, stands at an unfinished request, or has run its first request. -/
theorem execAll_next {s t : State} {p : List Instr} (h : execAll p s = .next t) :
    (p = [] ∧ t = s) ∨ (s.port ≠ none ∧ t = s) ∨
    (s.port = none ∧ ∃ i rest u, p = i :: rest ∧ exec i (s.present i) = .next u ∧ execAll rest u = .next t) := by
  cases p with
  | nil => cases h; exact .inl ⟨rfl, rfl⟩
  | cons i rest =>
    by_cases hp : s.port = none
    · simp only [execAll, hp, if_true] at h
      split at h
      · exact .inr (.inr ⟨hp, i, rest, _, rfl, ‹_›, h⟩)
      · cases h
      · cases h
    · simp only [execAll, hp, if_false] at h
      cases h; exact .inr (.inl ⟨hp, rfl⟩)

end Sys2Proof.Machine
end

