-- ==== Sys2Proof/Laws/Step.lean ====
section
/-! SUPPORT. Once, everything a step can do. -/
namespace Sys2Proof.Machine

/-- What the host's input leaves alone: everything but `host` and `port`. -/
theorem arrive_frame (s : State) : s.arrive = { s with host := s.arrive.host, port := s.arrive.port } := by
  unfold State.arrive
  split
  · rfl
  · split <;> rfl
  · rfl

@[simp] theorem arrive_isIdle (s : State) : s.arrive.isIdle = s.isIdle := by rw [arrive_frame]; rfl

@[simp] theorem arrive_selected (s : State) : s.arrive.selected = s.selected := by rw [arrive_frame]; rfl

@[simp] theorem arrive_selector (s : State) : s.arrive.selector = s.selector := by rw [arrive_frame]; rfl

@[simp] theorem arrive_busy (s : State) : s.arrive.busy = s.busy := by rw [arrive_frame]

theorem step_reset {s : State} (h : s.resetNow = true) : step s = .next { s.applyReset with host := s.host.drop 1 } := by
  simp [step, stepNow, h]

theorem step_turn {s : State} (h : s.resetNow = false) : step s = s.arrive.turn := by
  simp [step, stepNow, h]

/-- A step resets, runs the request at the port, refuses an unassigned request, runs the selected step, or rests. -/
theorem step_cases {s t : State} (h : step s = .next t) :
    (s.resetNow = true ∧ t = { s.applyReset with host := s.host.drop 1 }) ∨
    (s.resetNow = false ∧ ∃ w i, s.arrive.port = some w ∧ decodeRequest w = .ok i ∧ exec i s.arrive = .next t) ∨
    (s.resetNow = false ∧ ∃ w e, s.arrive.port = some w ∧ decodeRequest w = .error e ∧ t = s.arrive.refuseUnassigned) ∨
    (s.resetNow = false ∧ s.arrive.port = none ∧ s.busy = true ∧
      ∃ i, decodeSelector s.selector = .ok i ∧ exec i s.arrive = .next t) ∨
    (s.resetNow = false ∧ s.arrive.port = none ∧ s.busy = false ∧ t = s.arrive) := by
  cases hr : s.resetNow
  · rw [step_turn hr] at h
    unfold State.turn at h
    split at h
    · unfold State.runRequest at h
      split at h
      · exact .inr (.inl ⟨rfl, _, _, ‹_›, ‹_›, h⟩)
      · exact .inr (.inr (.inl ⟨rfl, _, _, ‹_›, ‹_›, by cases h; rfl⟩))
    · unfold State.runSequencer at h
      rw [arrive_busy, arrive_selector] at h
      split at h
      · split at h
        · exact .inr (.inr (.inr (.inl ⟨rfl, ‹_›, ‹_›, _, ‹_›, h⟩)))
        · cases h
      · rename_i hp hb
        exact .inr (.inr (.inr (.inr ⟨rfl, hp, by simpa only [Bool.not_eq_true] using hb, by cases h; rfl⟩)))
  · rw [step_reset hr] at h
    exact .inl ⟨rfl, by cases h; rfl⟩

end Sys2Proof.Machine
end

