-- ==== Sys2Proof/Tests/Slice0.lean ====
section
/-! SUPPORT. Small tests. Expected values are taken from spec/95_test_vectors.md (its section is named beside each) or worked
out by hand from the rule named; each witness theorem shows a state and operands that meet the hypotheses of one
statement. -/
namespace Sys2Proof.Tests
open Sys2Proof Sys2Proof.Machine

/-! ### Helpers -/

/-- `OPEN_T[p]` of the parameter set X1 (spec/95_test_vectors.md section 0). -/
def openX1 (p : Byte) : OpenTemplate :=
  .fieldInside (0xA0 + p) [0x05 + p] #v[0, 0, 0, 0] [0x7E, 0x7D, 0x00, 0x01] #v[0, 0]

/-- `TRAILER_T[p]` of the parameter set X1. -/
def trailerX1 (p : Byte) : SizedTemplate := ⟨[0xB0 + p, 0, 0, 0], #v[0, 0, 0, 0], [], #v[0, 0]⟩

/-- The parameter set X1. -/
def x1 : Params where
  hello := #v[0x01, 0x02, 0x03, 0x04, 0x05, 0x06, 0x07, 0x08, 0x09, 0x0A, 0x0B, 0x0C, 0x0D, 0x0E, 0x0F, 0x10, 0x11, 0x12, 0x13,
    0x14, 0x15, 0x16, 0x17, 0x18, 0x19, 0x1A, 0x1B, 0x1C, 0x1D, 0x1E, 0x1F, 0x20, 0x21, 0x22, 0x23, 0x00, 0x00]
  gen := 33
  opens := #v[openX1 0, openX1 1, openX1 2]
  trailers := #v[trailerX1 0, trailerX1 1, trailerX1 2]
  close := #v[0xC0, 0x00, 0x00]
  ackSlack := 60
  ackFatal := false
  cmdSlack := 27

/-- X1 with `ACK_FATAL = 1`. -/
def x1Fatal : Params := { x1 with ackFatal := true }

/-- The block after reset with X1. -/
def idle : State := { State.reset with cfg := x1 }

/-- A two-image session of 300000 and 100 bytes at a point of its run, with one write accepted to come. -/
def running (seq : SeqState) (await : Bool) (img : Pos) : State :=
  { idle with busy := true, seq := seq, await := await, img := img, size := #v[300000, 100, 0], tx := [.ok] }

/-- A whole session of two images, 8 bytes and none, after `SEQ.RUN`: every write accepted, every read answered. -/
def session : State :=
  { idle with busy := true, size := #v[8, 0, 0], images := #v[[1, 2, 3, 4, 5, 6, 7, 8], [], []]
              tx := List.replicate 8 .ok, rx := List.replicate 5 (.burst [0x00]) }

/-- The next state of an outcome, where it is one. -/
def after : Result → Option State
  | .next t => some t
  | _ => none

/-! ### WellFormed: an ill-formed term for each check -/

theorem test_wf_templateId : (Instr.cmdLoad 8).wellFormed = false ∧ (Instr.cmdLoad 7).wellFormed = true := by decide

theorem test_wf_position_open :
    (Instr.cmdOpen 3 100).wellFormed = false ∧ (Instr.cmdOpen 2 100).wellFormed = true := by decide

theorem test_wf_size_open :
    (Instr.cmdOpen 0 7).wellFormed = false ∧ (Instr.cmdOpen 0 8).wellFormed = true := by
  decide

theorem test_wf_position_trailer :
    (Instr.cmdTrailer 3 100).wellFormed = false ∧ (Instr.cmdTrailer 1 0).wellFormed = true := by decide

theorem test_wf_size_trailer :
    (Instr.cmdTrailer 0 7).wellFormed = false ∧ (Instr.cmdTrailer 0 8).wellFormed = true := by decide

theorem test_wf_readableReg :
    (Instr.regRd 0x0D).wellFormed = false ∧ (Instr.regRd 0x18).wellFormed = false ∧ (Instr.regRd 0x17).wellFormed = true := by
  decide

theorem test_wf_writableReg :
    (Instr.regWr 0x00 1).wellFormed = false ∧ (Instr.regWr 0x18 1).wellFormed = false ∧
    (Instr.regWr 0x10 1).wellFormed = true := by decide

theorem test_wf_space : (Instr.bufRd 3 0).wellFormed = false ∧ (Instr.bufRd 2 0).wellFormed = true := by decide

/-! ### Decoding: every constructor's word, written out from spec/30_encoding.md R80 to R85 (operand bits it does not use not zero) -/

theorem test_decode_crcInit : decodeTableWord 72 0x00FFFFFFFFFFFFFFFF = some .crcInit := by decide

theorem test_decode_crcLoad : decodeTableWord 72 0x0100000000ABCD1234 = some (.crcLoad 0x1234) := by decide

theorem test_decode_crcStep : decodeTableWord 72 0x020000000000000131 = some (.crcStep 0x31) := by decide

theorem test_decode_crcBuf : decodeTableWord 72 0x030000000000000009 = some (.crcBuf 9) := by decide

theorem test_decode_crcFinal : decodeTableWord 72 0x040000000000000000 = some .crcFinal := by decide

theorem test_decode_frmEsc : decodeTableWord 72 0x100000000000000000 = some .frmEsc := by decide

theorem test_decode_frmEnc : decodeTableWord 72 0x110000000000000000 = some .frmEnc := by decide

theorem test_decode_frmRaw : decodeTableWord 72 0x120000000000000000 = some .frmRaw := by decide

theorem test_decode_frmUnesc : decodeTableWord 72 0x130000000000000000 = some .frmUnesc := by decide

theorem test_decode_frmDec : decodeTableWord 72 0x140000000000000000 = some .frmDec := by decide

theorem test_decode_txSend : decodeTableWord 72 0x150000000000000000 = some .txSend := by decide

theorem test_decode_frmClr : decodeTableWord 72 0x160000000000000000 = some .frmClr := by decide

theorem test_decode_frmPut : decodeTableWord 72 0x17000000000000017E = some (.frmPut 0x7E) := by decide

theorem test_decode_cmdClr : decodeTableWord 72 0x200000000000000000 = some .cmdClr := by decide

theorem test_decode_cmdPut : decodeTableWord 72 0x2100000000FFFFFF28 = some (.cmdPut 0x28) := by decide

theorem test_decode_cmdLoad : decodeTableWord 72 0x220000000000000107 = some (.cmdLoad 0x107) := by decide

theorem test_decode_cmdPut32 : decodeTableWord 72 0x23000493D800000002 = some (.cmdPut32 2 299992) := by decide

theorem test_decode_cmdInc2 : decodeTableWord 72 0x240000000080000021 = some (.cmdInc2 0x80000021) := by decide

theorem test_decode_cmdCrcpatch : decodeTableWord 72 0x250000000000000000 = some .cmdCrcpatch := by decide

theorem test_decode_cmdHello : decodeTableWord 72 0x2800000000FFFFFFFE = some (.cmdHello false) := by decide

theorem test_decode_cmdOpen : decodeTableWord 72 0x29000493E000000000 = some (.cmdOpen 0 300000) := by decide

theorem test_decode_cmdTrailer : decodeTableWord 72 0x2A0000006400000001 = some (.cmdTrailer 1 100) := by decide

theorem test_decode_cmdClose : decodeTableWord 72 0x2B0000000000000000 = some .cmdClose := by decide

theorem test_decode_ackClr : decodeTableWord 72 0x300000000000000000 = some .ackClr := by decide

theorem test_decode_ackPut : decodeTableWord 72 0x31000000000000007E = some (.ackPut 0x7E) := by decide

theorem test_decode_ackRecv : decodeTableWord 72 0x320000000000000000 = some .ackRecv := by decide

theorem test_decode_ackCheck : decodeTableWord 72 0x330000000000000026 = some (.ackCheck 0x26) := by decide

theorem test_decode_seqRun : decodeTableWord 72 0x400000000000000000 = some .seqRun := by decide

theorem test_decode_regWr : decodeTableWord 72 0x50000493E000000012 = some (.regWr 0x12 300000) := by decide

theorem test_decode_regRd : decodeTableWord 72 0x510000000000000003 = some (.regRd 3) := by decide

theorem test_decode_bufRd : decodeTableWord 72 0x520000000300000001 = some (.bufRd 1 3) := by decide

theorem test_decode_sHelloTx :
    decodeTableWord 8 0b000000 = some .sHelloTx ∧ decodeTableWord 8 0b000001 = some .sHelloTx := by decide

theorem test_decode_sHelloAck :
    decodeTableWord 8 0b000010 = some .sHelloAck ∧ decodeTableWord 8 0b000011 = some .sHelloAck := by decide

theorem test_decode_sOpenTxFirst :
    decodeTableWord 8 0b000100 = some .sOpenTxFirst ∧ decodeTableWord 8 0b000101 = some .sOpenTxFirst := by decide

theorem test_decode_sOpenAckFirst :
    decodeTableWord 8 0b000110 = some .sOpenAckFirst ∧ decodeTableWord 8 0b000111 = some .sOpenAckFirst := by decide

theorem test_decode_sTrailerTx :
    decodeTableWord 8 0b001000 = some .sTrailerTx ∧ decodeTableWord 8 0b001001 = some .sTrailerTx := by decide

theorem test_decode_sChunk :
    decodeTableWord 8 0b001100 = some .sChunk ∧ decodeTableWord 8 0b001101 = some .sChunk := by decide

theorem test_decode_sDataAck :
    decodeTableWord 8 0b001110 = some .sDataAck ∧ decodeTableWord 8 0b001111 = some .sDataAck := by decide

theorem test_decode_sOpenTxNext : decodeTableWord 8 0b010000 = some .sOpenTxNext := by decide

theorem test_decode_sOpenAckNext :
    decodeTableWord 8 0b010010 = some .sOpenAckNext ∧ decodeTableWord 8 0b010011 = some .sOpenAckNext := by decide

theorem test_decode_sCloseTx : decodeTableWord 8 0b010001 = some .sCloseTx := by decide

theorem test_decode_sFinish :
    decodeTableWord 8 0b010100 = some .sFinish ∧ decodeTableWord 8 0b010101 = some .sFinish := by decide

theorem test_decode_unassigned :
    decodeTableWord 72 0x050000000000000000 = none ∧ decodeTableWord 72 0xFFFFFFFFFFFFFFFFFF = none := by decide

theorem test_decode_noStep :
    decodeTableWord 8 0b001010 = none ∧ decodeTableWord 8 0b010110 = none ∧ decodeTableWord 8 0b011000 = none := by
  decide

theorem test_encode_cmdPut32 : encode (.cmdPut32 2 299992) = .request 0x23000493D800000002 := by decide

theorem test_encode_sCloseTx : encode .sCloseTx = .selector 0b010001 := by decide

/-! ### CRC Engine (spec/95_test_vectors.md section 1) -/

theorem test_crcTable : crcTable 0x01 = 0x1189 ∧ crcTable 0x80 = 0x8408 ∧ crcTable 0xFF = 0x0F78 := by decide

theorem test_crc_check_string :
    crc16 0xFFFF [0x31, 0x32, 0x33, 0x34, 0x35, 0x36, 0x37, 0x38, 0x39] = 0x6F91 := by decide

theorem test_crc_residue :
    crc16 0xFFFF [0x31, 0x32, 0x33, 0x34, 0x35, 0x36, 0x37, 0x38, 0x39, 0x6E, 0x90] = 0xF0B8 := by decide

theorem test_crcInit : (after (exec .crcInit { idle with crc := 0x1234 })).map (·.crc) = some 0xFFFF := by decide

theorem test_crcLoad : (after (exec (.crcLoad 0x1234) idle)).map (·.crc) = some 0x1234 := by decide

theorem test_crcStep : (after (exec (.crcStep 0x31) idle)).map (·.crc) = some 0x2F8D := by decide

theorem test_crcBuf :
    (after (exec (.crcBuf 2) { idle with cmd := [0x28, 0x18] })).map (·.crc) = some 0x8182 := by decide

theorem test_crcBuf_beyond :
    (after (exec (.crcBuf 3) { idle with cmd := [0x28, 0x18] })).map (fun t => (t.crc, t.operr)) =
    some (0xFFFF, .operandRange) := by decide

theorem test_crcFinal :
    (after (exec .crcFinal { idle with crc := 0x6F91 })).map (·.res) = some 0x0000906E := by
  decide

/-! ### Frame Codec (spec/95_test_vectors.md section 3) -/

theorem test_unescape_errors :
    unescape [0x7D, 0x20] = .error .decBadEscape ∧ unescape [0x01, 0x7D] = .error .decTruncatedEscape ∧
    unescape [0x01, 0x7E, 0x02] = .error .decBareDelimiter := by
  refine ⟨?_, ?_, ?_⟩ <;> rfl

theorem test_decode_short_frame : decodeFrame [0x7E] = .error .decMissingDelimiter := by rfl

theorem test_frmEsc :
    (after (exec .frmEsc { idle with cmd := [0x01, 0x7E, 0x7D, 0x02] })).map (·.frm) =
    some [0x01, 0x7D, 0x5E, 0x7D, 0x5D, 0x02] := by decide

theorem test_frmEnc :
    (after (exec .frmEnc { idle with cmd := [0x60, 0x7E, 0x93] })).map (·.frm) =
    some [0x7E, 0x60, 0x7D, 0x5E, 0x93, 0x7E] := by decide

theorem test_frmRaw :
    (after (exec .frmRaw { idle with cmd := [0x7D, 0x7E] })).map (·.frm) = some [0x7D, 0x7E] := by decide

theorem test_frmUnesc :
    (after (exec .frmUnesc { idle with frm := [0x01, 0x7D, 0x5E, 0x7D, 0x5D, 0x02] })).map (·.cmd) =
    some [0x01, 0x7E, 0x7D, 0x02] := by decide

theorem test_frmUnesc_refused :
    (after (exec .frmUnesc { idle with frm := [0x7D, 0x20], cmd := [0xAA] })).map (fun t => (t.cmd, t.operr)) =
    some ([0xAA], .decBadEscape) := by decide

theorem test_frmDec :
    (after (exec .frmDec { idle with frm := [0x7E, 0x60, 0x7D, 0x5E, 0x93, 0x7E] })).map (·.cmd) =
    some [0x60, 0x7E, 0x93] := by decide

theorem test_frmDec_refused :
    (after (exec .frmDec { idle with frm := [0x7E, 0x01, 0x7D, 0x7E] })).map (·.operr) = some .decTruncatedEscape := by
  decide

theorem test_txSend :
    (after (exec .txSend { idle with frm := [0xC0], tx := [.ok] })).map (fun t => (t.history, t.frm)) =
    some ([.tx [0xC0] .ok], [0xC0]) := by decide

theorem test_txSend_failed :
    (after (exec .txSend { idle with frm := [0xC0], tx := [.failed] })).map (fun t => (t.history, t.operr, t.seq)) =
    some ([.tx [0xC0] .failed], .transportFail, .start) := by decide

theorem test_frmClr : (after (exec .frmClr { idle with frm := [1, 2, 3, 4, 5] })).map (·.frm) = some [] := by decide

theorem test_frmPut :
    (after (exec (.frmPut 0x7E) { idle with frm := [0x7E] })).map (·.frm) = some [0x7E, 0x7E] := by decide

theorem test_frmPut_full :
    (after (exec (.frmPut 0) { idle with frm := List.replicate 130 0 })).map (·.operr) = some .bufferOverflow := by
  decide +kernel

/-! ### Command Builder (spec/95_test_vectors.md section 4) -/

theorem test_cmdClr : (after (exec .cmdClr { idle with cmd := [1, 2] })).map (·.cmd) = some [] := by decide

theorem test_cmdPut :
    (after (exec (.cmdPut 0x32) { idle with cmd := [0x31] })).map (·.cmd) = some [0x31, 0x32] := by decide

theorem test_cmdPut_full :
    (after (exec (.cmdPut 0) { idle with cmd := List.replicate 64 0 })).map (·.operr) = some .bufferOverflow := by
  decide

theorem test_cmdLoad : (after (exec (.cmdLoad 7) idle)).map (·.cmd) = some [0xC0, 0x00, 0x00] := by decide

theorem test_cmdLoad_refused : (after (exec (.cmdLoad 8) idle)).map (·.operr) = some .operandRange := by decide

theorem test_cmdPut32 :
    (after (exec (.cmdPut32 2 299992) { idle with cmd := [0xA0, 0x05, 0, 0, 0, 0, 0x7E] })).map (·.cmd) =
    some [0xA0, 0x05, 0xD8, 0x93, 0x04, 0x00, 0x7E] := by decide

theorem test_cmdPut32_no_wrap :
    (after (exec (.cmdPut32 0xFFFFFFFF 1) { idle with cmd := List.replicate 12 0 })).map (·.operr) =
    some .operandRange := by decide

theorem test_cmdInc2 :
    (after (exec (.cmdInc2 1) { idle with cmd := [0x10, 0xFF, 0xFF, 0x20] })).map (·.cmd) =
    some [0x10, 0x00, 0x00, 0x20] := by decide

theorem test_cmdInc2_refused :
    (after (exec (.cmdInc2 3) { idle with cmd := [0x10, 0xFF, 0xFF, 0x20] })).map (·.operr) = some .operandRange := by
  decide

theorem test_cmdCrcpatch :
    (after (exec .cmdCrcpatch { idle with cmd := [0xC0, 0x00, 0x00] })).map (fun t => (t.cmd, t.crc)) =
    some ([0xC0, 0x74, 0x36], 0xC98B) := by decide

theorem test_cmdCrcpatch_empty :
    (after (exec .cmdCrcpatch { idle with cmd := [0xAA, 0xBB] })).map (fun t => (t.cmd, t.crc)) =
    some ([0x00, 0x00], 0xFFFF) := by decide

theorem test_cmdHello :
    (after (exec (.cmdHello true) idle)).map (fun t => (t.cmd.drop 32, t.crc)) =
    some ([0x21, 0x23, 0x24, 0x4E, 0x81], 0x7EB1) := by decide

theorem test_cmdOpen :
    (after (exec (.cmdOpen 0 300000) idle)).map (fun t => (t.cmd, t.crc)) =
    some ([0xA0, 0x05, 0xD8, 0x93, 0x04, 0x00, 0x7E, 0x7D, 0x00, 0x01, 0xCB, 0xD6], 0x2934) := by decide

theorem test_cmdOpen_refused : (after (exec (.cmdOpen 0 7) idle)).map (·.operr) = some .operandRange := by decide

theorem test_cmdTrailer :
    (after (exec (.cmdTrailer 1 32381) idle)).map (·.cmd) =
    some [0xB1, 0x00, 0x00, 0x00, 0x7D, 0x7E, 0x00, 0x00, 0xAF, 0x65] := by decide

theorem test_cmdTrailer_size8 :
    (after (exec (.cmdTrailer 0 8) idle)).map (·.cmd) =
    some [0xB0, 0x00, 0x00, 0x00, 0x00, 0x00, 0x00, 0x00, 0x19, 0xA5] := by decide

theorem test_cmdClose : (after (exec .cmdClose idle)).map (·.cmd) = some [0xC0, 0x74, 0x36] := by decide

/-! ### Response Validator (spec/95_test_vectors.md section 5) -/

theorem test_validate_order :
    validate [0x7E, 0x02, 0x7E] 0x02 = (.tooShort, 0) ∧ validate [0x00, 0x02, 0x00, 0x00] 0x02 = (.missingFraming, 0) ∧
    validate [0x7E, 0x02, 0x00, 0x7E] 0x02 = (.ok, 0) := by
  decide

theorem test_ackClr : (after (exec .ackClr { idle with ack := [1, 2] })).map (·.ack) = some [] := by decide

theorem test_ackPut :
    (after (exec (.ackPut 0x02) { idle with ack := [0x7E] })).map (·.ack) = some [0x7E, 0x02] := by decide

theorem test_ackPut_full :
    (after (exec (.ackPut 0) { idle with ack := List.replicate 64 0 })).map (·.operr) = some .bufferOverflow := by
  decide

theorem test_ackRecv :
    (after (exec .ackRecv { idle with rx := [.burst [0x7E, 0x02, 0x6A, 0xD3, 0x7E]] })).map (fun t => (t.ack, t.rx)) =
    some ([0x7E, 0x02, 0x6A, 0xD3, 0x7E], []) := by decide

theorem test_ackRecv_failed :
    (after (exec .ackRecv { idle with rx := [.error], ack := [1] })).map (fun t => (t.ack, t.operr, t.history)) =
    some ([1], .transportFail, [.rx .error]) := by decide

theorem test_ackCheck :
    (after (exec (.ackCheck 0x26) { idle with ack := [0x7E, 0x0D, 0x00, 0x00, 0x7E] })).map
      (fun t => (t.res, t.ackflags)) = some (0x00260D03, 0b100) := by decide

theorem test_ackCheck_sticky :
    (after (exec (.ackCheck 0x0D) { idle with ack := [0x7E, 0x0D, 0x00, 0x00, 0x7E], ackflags := 0b100 })).map
      (fun t => (t.res, t.ackflags)) = some (0x000D0000, 0b100) := by decide

/-! ### Sequencer and host access (spec/95_test_vectors.md sections 6 and 8) -/

theorem test_seqRun :
    (after (exec .seqRun { idle with size := #v[300000, 100, 0] })).map (·.busy) = some true := by decide

theorem test_seqRun_refused :
    (after (exec .seqRun { idle with size := #v[262151, 100, 0] })).map (fun t => (t.seq, t.cause)) =
    some (.aborted, .configError) := by decide

theorem test_regWr :
    (after (exec (.regWr 0x13 1) { idle with size := #v[16, 0, 0] })).map (·.size[0]) = some 0x100000010 := by decide

theorem test_regWr_readOnly : (after (exec (.regWr 0x00 1) idle)).map (·.operr) = some .operandRange := by decide

theorem test_regRd_seq :
    (after (exec (.regRd 0x01) { idle with seq := .done, img := 2 })).map (·.res) = some 0x26 := by decide

theorem test_regRd_operr :
    (after (exec (.regRd 0x03) { idle with operr := .operandRange })).map (fun t => (t.res, t.operr)) = some (3, .none) := by
  decide

theorem test_bufRd :
    (after (exec (.bufRd 0 1) { idle with cmd := [0xC0, 0x74, 0x36] })).map (·.res) = some 0x74 := by decide

theorem test_bufRd_atLength :
    (after (exec (.bufRd 0 3) { idle with cmd := [0xC0, 0x74, 0x36] })).map (·.operr) = some .operandRange := by
  decide

theorem test_sHelloTx :
    (after (exec .sHelloTx (running .start false 0))).map (fun t => (t.await, t.expect, t.crc, t.frm.length)) =
    some (true, 0x02, 0x13D6, 39) := by decide

theorem test_sHelloAck :
    (after (exec .sHelloAck { running .start true 0 with rx := [.burst [0x7E, 0x02, 0x6A, 0xD3, 0x7E]] })).map
      (fun t => (t.seq, t.await, t.lastack)) = some (.helloSent, false, ⟨.ok, 0, 0x02⟩) := by decide

theorem test_sHelloAck_fatal :
    (after (exec .sHelloAck { running .start true 0 with cfg := x1Fatal, rx := [.burst [0x7E, 0x0D, 0x00, 0x00, 0x7E]] })).map
      (fun t => (t.cause, t.ackflags)) = some (.ackFatal, 0b100) := by
  decide

theorem test_sOpenTxFirst :
    (after (exec .sOpenTxFirst (running .helloSent false 0))).map (·.history) =
    some [.tx [0x7E, 0xA0, 0x05, 0xD8, 0x93, 0x04, 0x00, 0x7D, 0x5E, 0x7D, 0x5D, 0x00, 0x01, 0xCB, 0xD6, 0x7E] .ok] := by
  decide

theorem test_sOpenAckFirst :
    (after (exec .sOpenAckFirst { running .helloSent true 0 with rx := [.error] })).map (fun t => (t.cause, t.await)) =
    some (.transportRx, false) := by
  decide

theorem test_sOpenTxNext :
    (after (exec .sOpenTxNext (running .imageAcked false 0))).map (fun t => (t.cmd.take 6, t.img, t.expect)) =
    some ([0xA1, 0x06, 0x64, 0x00, 0x00, 0x00], 0, 0x26) := by decide

theorem test_sOpenAckNext :
    (after (exec .sOpenAckNext { running .imageAcked true 0 with rx := [.burst [0x7E, 0x26, 0x00, 0x00, 0x7E]] })).map
      (fun t => (t.seq, t.img)) = some (.imageOpen, 1) := by decide

theorem test_sTrailerTx :
    (after (exec .sTrailerTx (running .imageOpen false 0))).map (fun t => (t.history, t.seq)) =
    some ([.tx [0xB0, 0x00, 0x00, 0x00, 0xD8, 0x93, 0x04, 0x00, 0xC4, 0xB9] .ok], .imageStreaming) := by decide

theorem test_sTrailerTx_failed :
    (after (exec .sTrailerTx { running .imageOpen false 0 with tx := [.failed], off := 5 })).map
      (fun t => (t.cause, t.off, t.frm.length)) = some (.transportTx, 5, 10) := by decide

theorem test_sChunk_first_image :
    (after (exec .sChunk { running .imageStreaming false 0 with
        size := #v[10, 0, 0], images := #v[[1, 2, 3, 4, 5, 6, 7, 8, 9, 10], [], []] })).map
      (fun t => (t.history, t.off, t.await)) = some ([.tx [1, 2] .ok], 10, true) := by decide

theorem test_sChunk_empty :
    (after (exec .sChunk { running .imageStreaming false 1 with size := #v[8, 0, 0] })).map
      (fun t => (t.history, t.expect)) = some ([.tx [] .ok], 0x28) := by decide

theorem test_sDataAck :
    (after (exec .sDataAck { running .imageStreaming true 1 with rx := [.burst [0x00]] })).map
      (fun t => (t.seq, t.ackflags, t.lastack)) = some (.imageAcked, 0b001, ⟨.tooShort, 0, 0x28⟩) := by decide

theorem test_sCloseTx :
    (after (exec .sCloseTx (running .imageAcked false 1))).map (fun t => (t.history, t.seq)) =
    some ([.tx [0x7E, 0xC0, 0x74, 0x36, 0x7E] .ok], .closing) := by decide

theorem test_sFinish :
    (after (exec .sFinish (running .closing false 1))).map (fun t => (t.seq, t.done, t.busy)) = some (.done, true, false) := by
  decide

/-! ### Programs (spec/30_encoding.md R95, R96; spec/43_response_validator.md R183) -/

/-- The transport is silent: `ACK.RECV` stands at the port and `ACK.CHECK` is not accepted. -/
theorem test_program_waits :
    (after (execAll (expand x1 (.awaitAck 0x02)) { idle with ack := [0x7E, 0x02, 0x00, 0x7E] })).map
      (fun t => (t.port, t.lastack)) = some (some 0x320000000000000000, ⟨.ok, 0, 0⟩) := by decide

theorem test_program_goes_on :
    (after (execAll (expand x1 (.awaitAck 0x02)) { idle with rx := [.burst [0x7E, 0x0D, 0x00, 0x7E]] })).map
      (fun t => (t.port, t.res)) = some (none, 0x00020D03) := by decide

/-! ### The step -/

theorem test_step_first_request :
    (after (step (State.reset.withFetchWord 72 0x020000000000000031))).map (·.crc) = some 0x2F8D := by decide

theorem test_step_selected :
    (after (step (State.reset.withFetchWord 8 0b010100))).map (·.seq) = some .done := by decide

theorem test_step_busy :
    (after (step { running .closing false 1 with host := [.request 0x000000000000000000] })).map
      (fun t => (t.operr, t.seq)) = some (.busy, .closing) := by decide

theorem test_step_reset :
    (after (step { running .closing false 1 with host := [.reset] })).map (fun t => (t.seq, t.busy, t.tx)) =
    some (.start, false, [.ok]) := by decide

/-! ### Witnesses: a state and operands that meet the hypotheses of each statement, clause by clause -/

/-- A running session of `running` at a point that its registers allow meets the invariant. -/
theorem inv_closing : Inv (running .closing false 1) := by
  constructor <;> decide

theorem inv_start : Inv (running .start false 0) := by
  constructor <;> decide

theorem inv_awaiting : Inv { running .start true 0 with expect := 0x02 } := by
  constructor <;> decide

theorem inv_session : Inv session := by
  constructor <;> decide

theorem inv_done : Inv { idle with seq := .done, done := true } := by
  constructor <;> decide

theorem witness_OperationMap : decodeRequest 0x520000000300000001 = .ok (.bufRd 1 3) := by rfl

/-- The ends of every unassigned range, and the assigned codes beside them. -/
theorem witness_UnassignedCodesAreRefused :
    (∀ op ∈ [0x05, 0x0F, 0x18, 0x1F, 0x26, 0x27, 0x2C, 0x2F, 0x34, 0x3F, 0x41, 0x4F, 0x53, (0xFF : Byte)],
      (decodeRequest (requestWord op 0 0)).toOption = none) ∧
    (∀ op ∈ [0x04, 0x10, 0x17, 0x20, 0x25, 0x28, 0x2B, 0x30, 0x33, 0x40, 0x50, (0x52 : Byte)],
      (decodeRequest (requestWord op 0 0)).toOption ≠ none) ∧ idle.isIdle = true ∧ idle.port = none := by
  decide

theorem witness_SelectorTable : (running .closing false 1).busy = true ∧ idle.busy = false := by decide

theorem witness_SelectorTable_noStep :
    ∀ last, (decodeSelector (selectorWord 2 true last)).toOption = none ∧ (decodeSelector (selectorWord 5 true last)).toOption = none ∧
      (decodeSelector (selectorWord 6 false last)).toOption = none ∧ (decodeSelector (selectorWord 15 true last)).toOption = none := by
  decide

theorem witness_StepRunsTheRequest :
    (decodeRequest 0x040000000000000000).toOption = some .crcFinal ∧
    (let s := { idle with host := [.request 0x040000000000000000] }; s.port = none ∧ s.host = [.request 0x040000000000000000]) ∧
    (let s := { idle with port := some 0x040000000000000000 }; s.port = some 0x040000000000000000 ∧ s.host = []) ∧
    (let s := { idle with port := some 0x040000000000000000, host := [.idle] }; s.port ≠ none ∧ s.host = [.idle]) ∧
    (let s := { idle with port := some 0x040000000000000000, host := [.request 0] }; s.port ≠ none ∧ s.host = [.request 0]) := by
  decide

theorem witness_StepRunsTheSelectedStep :
    (running .closing false 1).port = none ∧ (running .closing false 1).host = [] ∧
    (decodeSelector (running .closing false 1).selector).toOption = some .sFinish ∧ idle.busy = false := by decide

theorem witness_BusyBlockRefusesAllButReads :
    (running .start false 0).busy = true ∧ { idle with seq := .done }.seq = .done ∧
    isRequest .crcInit = true ∧ isRead .crcInit = false ∧ isRequest (.regRd 0) = true ∧ isRead (.regRd 0) = true := by
  decide

theorem witness_ResetFromAnyState :
    { running .imageOpen false 1 with host := [.reset, .idle] }.host = .reset :: [.idle] := by decide

theorem witness_CrcOperations :
    idle.isIdle = true ∧ idle.cmd.length < (1 : Word32).toNat ∧ ¬ idle.cmd.length < (0 : Word32).toNat := by decide

theorem witness_UnescapeInvertsEscape : (unescape [0x7D, 0x5E]).toOption = some [0x7E] := by rfl

theorem witness_DelimiterOnlyAtTheEnds :
    (0x5E : Byte) ≠ 0x7E ∧ (0x5E : Byte) ≠ 0x7D ∧ (0x7F : Byte) ≠ 0x7E ∧ (0x7C : Byte) ≠ 0x7D ∧
    (escape [0x7D, 0x7E])[0]? = some (0x7D : Byte) ∧ (escape [0x7D, 0x7E])[2]? = some (0x7D : Byte) := by decide

theorem witness_EscapedLength : (List.replicate 64 (0x7E : Byte)).length ≤ cmdMax x1 := by decide

theorem witness_FrameOperationsFillFrm :
    idle.isIdle = true ∧ { idle with frm := List.replicate (frmMax x1) 0 }.frm.length = frmMax x1 ∧ idle.frm.length ≠ frmMax x1 := by
  decide +kernel

theorem witness_FrameOperationsDecode :
    (0x5F : Byte) ≠ 0x5E ∧ (0x5C : Byte) ≠ 0x5D ∧ (0x7F : Byte) ≠ 0x7E ∧ (0x7C : Byte) ≠ 0x7D ∧
    ([0x7E] : List Byte).length < 2 ∧ [0x7E, (0x01 : Byte)][1]? ≠ some (0x7E : Byte) ∧ [0x01, (0x7E : Byte)][0]? ≠ some (0x7E : Byte) ∧
    idle.isIdle = true ∧ (unescape [0x7E]).toOption = none ∧
    (unescape (List.replicate 64 0)).toOption.map List.length = some (cmdMax x1) ∧
    (unescape (List.replicate 65 0)).toOption.map List.length = some (cmdMax x1 + 1) ∧
    (decodeFrame [0x7E]).toOption = none ∧ (decodeFrame [0x7E, 0x7E]).toOption = some [] ∧
    (decodeFrame ([0x7E] ++ List.replicate 65 0 ++ [0x7E])).toOption.map List.length = some (cmdMax x1 + 1) := by
  decide +kernel

theorem witness_TxSendLogsTheFrame :
    idle.isIdle = true ∧ { idle with tx := [.ok] }.tx = .ok :: [] ∧ { idle with tx := [.failed] }.tx = .failed :: [] := by
  decide

theorem witness_CommandBufferFilled :
    idle.isIdle = true ∧ idle.cmd.length ≠ cmdMax x1 ∧ (List.replicate 64 (0 : Byte)).length = cmdMax x1 ∧
    (template x1 (7 : Word32).toNat).isSome = true ∧ 7 < (8 : Word32).toNat := by decide

theorem witness_Put32StoresLittleEndian :
    { idle with cmd := [1, 2, 3, 4] }.isIdle = true ∧ [1, 2, 3, (4 : Byte)].length < (1 : Word32).toNat + 4 ∧
    (0 : Word32).toNat + 4 ≤ [1, 2, 3, (4 : Byte)].length ∧ [1, 2, 3, (4 : Byte)].length < (0xFFFFFFFF : Word32).toNat + 4 := by
  decide

theorem witness_Inc2IncrementsTwoBytes :
    { idle with cmd := [1, 2] }.isIdle = true ∧ [1, (2 : Byte)].length < (1 : Word32).toNat + 2 ∧
    (0 : Word32).toNat + 2 ≤ [1, (2 : Byte)].length := by decide

theorem witness_CrcpatchSealsTheCommand :
    { idle with cmd := [1] }.isIdle = true ∧ [(1 : Byte)].length < 2 ∧ 2 ≤ [1, (2 : Byte)].length := by decide

theorem witness_HelloAndCloseAreBuilt : idle.isIdle = true ∧ genOff x1 + 1 < 35 := by decide

theorem witness_OpenIsBuilt :
    idle.isIdle = true ∧ 2 < (3 : Word32).toNat ∧ ((0 : Word32).toNat = 0 ∧ (7 : Word32).toNat < 8) ∧
    ((0 : Word32).toNat = (0 : Pos).val ∧ 8 ≤ (8 : Word32).toNat) ∧ ((2 : Word32).toNat = (2 : Pos).val ∧ (2 : Pos) ≠ 0) ∧
    openSizeOff x1 0 < 2 ^ 32 := by
  decide

theorem witness_TrailerIsBuilt :
    idle.isIdle = true ∧ 2 < (3 : Word32).toNat ∧ ((0 : Word32).toNat = 0 ∧ (7 : Word32).toNat < 8) ∧
    ((0 : Word32).toNat = (0 : Pos).val ∧ 8 ≤ (8 : Word32).toNat) ∧ ((2 : Word32).toNat = (2 : Pos).val ∧ (2 : Pos) ≠ 0) ∧
    trailerSizeOff x1 0 < 2 ^ 32 := by
  decide

theorem witness_BuiltCommandsAreSealed :
    (after (exec (.cmdOpen 2 0) idle)).map (·.operr) = some .none ∧
    (after (exec .cmdCrcpatch { idle with cmd := [1, 2] })).map (·.operr) = some .none := by decide

theorem witness_RomAndImagesNeverChange : step idle = .next idle := rfl

theorem witness_PseudoOperations :
    idle.isIdle = true ∧ (2 : Word32).toNat ≤ [1, (2 : Byte)].length ∧ (List.replicate 64 (0 : Byte)).length ≤ cmdMax x1 ∧
    { idle with tx := [.ok] }.tx = .ok :: [] ∧ { idle with rx := [.burst [1]] }.rx = .burst [1] :: [] ∧ [(1 : Byte)].length ≤ ackBufLen x1 ∧
    idle.tx = [] ∧ idle.rx = [] ∧ (∀ i ∈ [Instr.frmEnc, .txSend, .frmClr], isRequest i = true) ∧
    (after (execAll [.frmEnc, .txSend, .frmClr] { idle with port := none, host := [] })).map (·.port) =
      some (some 0x150000000000000000) ∧
    (after (execAll [.frmEnc, .frmClr] { idle with port := none, host := [] })).map (·.port) = some none := by
  decide

theorem witness_ValidatorIgnoresTheBody : [1, (2 : Byte)].length = [0x7E, (0x7E : Byte)].length := by decide

theorem witness_AckBufferFilled :
    idle.isIdle = true ∧ (List.replicate 64 (0 : Byte)).length = ackBufLen x1 ∧ { idle with rx := [.error] }.rx = .error :: [] ∧
    { idle with rx := [.burst (List.replicate 64 0)] }.rx = .burst (List.replicate 64 0) :: [] := by
  decide

theorem witness_AckCheckRecordsTheVerdict : { idle with ack := [0x7E, 0x0D, 0x00, 0x7E] }.isIdle = true := by decide

theorem witness_AckFlagsAreSticky :
    { idle with ackflags := 0b101 }.resetNow = false ∧ step { idle with ackflags := 0b101 } = .next { idle with ackflags := 0b101 } := ⟨rfl, rfl⟩

theorem witness_SeqRunChecksTheConfiguration :
    { idle with size := #v[8, 0, 0] }.isIdle = true ∧ { idle with size := #v[8, 0, 0] }.configOk = true ∧
    { idle with size := #v[262152, 0, 0] }.configOk = true ∧ { idle with size := #v[262151, 0, 0] }.configOk = false ∧
    { idle with size := #v[8, 0x100000000, 0] }.configOk = false ∧ { idle with size := #v[8, 0, 0], nimg := 3 }.configOk = false := by
  decide

theorem witness_RegWrWritesTheConfiguration :
    idle.isIdle = true ∧ (0x0F : Word32).toNat < 0x10 ∧ 0x17 < (0x18 : Word32).toNat := by decide

theorem witness_RegRdReadsEveryRegister :
    (0x0D ≤ (0x0D : Word32).toNat ∧ (0x0D : Word32).toNat ≤ 0x0F) ∧ 0x0D ≤ (0x0F : Word32).toNat ∧ 0x18 ≤ (0x18 : Word32).toNat := by
  decide

theorem witness_BufRdReadsBelowTheLength :
    [0xC0, 0x74, (0x36 : Byte)][(2 : Word32).toNat]? = some 0x36 ∧ [0xC0, 0x74, (0x36 : Byte)].length ≤ (3 : Word32).toNat ∧
    2 < (3 : Word32).toNat := by
  decide

theorem witness_IllFormedRequestsAreRefused :
    idle.isIdle = true ∧ (Instr.bufRd 3 0).wellFormed = false ∧ (Instr.cmdOpen 0 7).wellFormed = false := by decide

theorem witness_HelloAndCloseAreSent :
    let s := running .start false 0; let t := running .imageAcked false 1;
    (s.busy = true ∧ s.await = false ∧ s.seq = .start ∧ s.tx = .ok :: []) ∧
    (t.busy = true ∧ t.await = false ∧ t.seq = .imageAcked ∧ t.img.val + 1 = t.nimg.toNat) := by decide

theorem witness_OpenIsSent :
    let s := running .helloSent false 0; let t := running .imageAcked false 0;
    (s.busy = true ∧ s.await = false ∧ s.seq = .helloSent ∧ 8 ≤ (s.size[0].extractLsb' 0 32).toNat) ∧
    (t.busy = true ∧ t.await = false ∧ t.seq = .imageAcked ∧ t.img.val + 1 < t.nimg.toNat ∧ (1 : Pos).val = t.img.val + 1) := by
  decide

theorem witness_TrailerIsSentRaw :
    let s := { running .imageOpen false 0 with size := #v[8, 0, 0] };
    s.busy = true ∧ s.await = false ∧ s.seq = .imageOpen ∧ 8 ≤ (s.size[0].extractLsb' 0 32).toNat := by decide

theorem witness_ChunkIsSentVerbatim :
    let s := { running .imageStreaming false 0 with size := #v[262152, 262144, 0] }; let t := { s with off := 262144 };
    (s.busy = true ∧ s.await = false ∧ s.seq = .imageStreaming ∧ 262144 ≤ (s.size[0].extractLsb' 0 32).toNat - s.off.toNat) ∧
    (t.off.toNat ≤ (t.size[0].extractLsb' 0 32).toNat ∧ (t.size[0].extractLsb' 0 32).toNat - t.off.toNat = 8 ∧ t.img = 0) ∧
    { t with img := 1 }.off.toNat = (t.size[1].extractLsb' 0 32).toNat := by
  decide

theorem witness_AwaitingStepsReadOneBurst :
    let s := fun seq => { running seq true 0 with rx := [.burst [0x7E, 0x02, 0x00, 0x7E], .error] };
    (∀ seq ∈ [SeqState.start, .helloSent, .imageAcked, .imageStreaming],
      (s seq).busy = true ∧ (s seq).await = true ∧ (s seq).seq = seq) ∧ (1 : Pos).val = (s .imageAcked).img.val + 1 := by
  decide

theorem witness_FinishEndsTheSession :
    let s := running .closing false 1; s.busy = true ∧ s.await = false ∧ s.seq = .closing := by decide

theorem witness_BlockedCallsChangeNothing :
    Inv (running .start false 0) ∧ (running .start false 0).selected = some .sHelloTx ∧ idle.tx = [] ∧ idle.rx = [] ∧
    Inv { running .start true 0 with expect := 0x02 } ∧
    { running .start true 0 with expect := 0x02 }.selected = some .sHelloAck := ⟨inv_start, by decide, rfl, rfl, inv_awaiting, by decide⟩

theorem inv_blocked : Inv { running .start false 0 with tx := [] } := by
  constructor <;> decide

theorem witness_BlockedCallsChangeNothing_tx :
    let s := { running .start false 0 with tx := [] }; Inv s ∧ s.selected = some .sHelloTx ∧ s.tx = [] := ⟨inv_blocked, by decide, rfl⟩

theorem witness_UndefinedStepsAreStuck :
    let s := fun seq size off img => { running seq false img with size := #v[size, 0, 0], off := off };
    (s .helloSent 7 0 0).size[0].toNat < 8 ∧ (s .imageStreaming 16 9 0).off.toNat ≤ 16 ∧ (s .imageStreaming 16 17 0).off.toNat = 17 ∧
    (s .imageAcked 8 0 2).img = 2 ∧ (s .imageAcked 8 0 2).nimg.toNat ≠ 3 ∧
    (decodeSelector (running .imageOpen true 0).selector).toOption = none := by
  decide

theorem witness_DataEventsAreTheImage :
    8 ≤ ({ idle with size := #v[262152, 0, 0] }.sizeLo 0).toNat % 262144 ∧ 0 < (idle.sizeLo 1).toNat + 1 ∧ (1 : Pos) ≠ 0 := by
  decide

theorem witness_ImageReadsAreSlices :
    HostContract session ∧ (0 : Pos).val < session.nimg.toNat ∧ 3 + 5 ≤ session.size[0].toNat := by
  unfold HostContract; decide

/-- A log without a failed write, a step that appends an accepted write, one that appends a failed one, one that appends
none. -/
theorem witness_WireIsTheConcatenation :
    (∀ e ∈ txLog { idle with history := [.tx [0x01] .ok, .rx .error] }, e.2 = .ok) ∧
    (running .start false 0).resetNow = false ∧
    (after (step (running .start false 0))).map (fun t => (txLog t).map (·.2)) = some [.ok] ∧
    (after (step { running .start false 0 with tx := [.failed] })).map (fun t => (txLog t).map (·.2)) = some [.failed] ∧
    (after (step { idle with tx := [.ok], frm := [0x7E], host := [.request 0x150000000000000000] })).map txLog =
      some [([0x7E], .ok)] ∧
    (after (step idle)).map txLog = some [] := by
  decide

theorem witness_ResetHasTheInvariant :
    AfterReset idle ∧ { running .imageOpen false 1 with host := [.reset] }.host = .reset :: [] := ⟨rfl, rfl⟩

theorem witness_StepKeepsTheInvariant :
    Inv (running .closing false 1) ∧
    ∃ t, step (running .closing false 1) = .next t ∧ t.seq = .done := ⟨inv_closing, _, rfl, rfl⟩

theorem witness_StepAnswersANextState : Inv (running .closing false 1) := inv_closing

theorem witness_ReachableStatesKeepTheInvariant :
    AfterReset { idle with host := [.request 0x400000000000000000] } := rfl

theorem witness_FinishedBlockStays :
    let s := { idle with seq := .done, done := true }; Inv s ∧ s.seq = .done ∧ s.resetNow = false ∧ step s = .next s := ⟨inv_done, rfl, rfl, rfl⟩

theorem inv_badConfig : Inv { idle with host := [.request 0x400000000000000000] } := by
  constructor <;> decide

theorem inv_failingWrite : Inv { running .start false 0 with tx := [.failed] } := by
  constructor <;> decide

theorem inv_failingRead : Inv { running .start true 0 with expect := 0x02, rx := [.error] } := by
  constructor <;> decide

theorem inv_badAck :
    Inv { running .start true 0 with cfg := x1Fatal, expect := 0x02, rx := [.burst [0x7E, 0x0D, 0x00, 0x7E]] } := by
  constructor <;> decide

/-- One abort of each cause. -/
theorem witness_AbortsRecordTheirCause :
    (after (step { idle with host := [.request 0x400000000000000000] })).map (·.cause) = some .configError ∧
    (after (step { running .start false 0 with tx := [.failed] })).map (·.cause) = some .transportTx ∧
    (after (step { running .start true 0 with expect := 0x02, rx := [.error] })).map (·.cause) = some .transportRx ∧
    (after (step { running .start true 0 with
        cfg := x1Fatal, expect := 0x02, rx := [.burst [0x7E, 0x0D, 0x00, 0x7E]] })).map (·.cause) = some .ackFatal := by
  decide

theorem forall2_start : List.Forall₂ Event.is [] (eventsSoFar session) := .nil

theorem witness_StepExtendsTheSessionLog :
    Inv session ∧ session.busy = true ∧ session.resetNow = false ∧ session.history = [] ++ [] ∧
    List.Forall₂ Event.is [] (eventsSoFar session) ∧ (after (step session)).map (·.seq) = some .start := ⟨inv_session, rfl, rfl, rfl, forall2_start, by decide⟩

/-- The session of two images, 8 bytes and none, reaches `Done` in 14 steps. -/
theorem witness_FinishedSessionLog :
    Inv session ∧ session.busy = true ∧ session.seq = .start ∧ session.await = false ∧ NoReset session ∧
    (after (runFor 14 session)).map (·.seq) = some .done :=
  ⟨inv_session, rfl, rfl, rfl, nofun, by decide +kernel⟩

theorem witness_AnswersDoNotChangeTheWire :
    let s := running .start true 0;
    SameButAnswers { s with rx := [.burst [0x00]] } { s with rx := [.burst []], ack := [1] } ∧ s.cfg.ackFatal = false := ⟨⟨rfl, rfl, .cons (by simp [SameShape, ackBufLen]) .nil⟩, rfl⟩

theorem witness_LeftoversDoNotDisturbTheRun :
    (running .start false 0).isIdle = false ∧
    SameButLeftovers (running .start false 0) { running .start false 0 with crc := 0, cmd := [1], frm := [2], operr := .busy } := ⟨rfl, rfl⟩

theorem session_cooperates : Cooperative session where
  writes := by decide
  reads := by
    intro r hr
    exact ⟨[0x00], List.eq_of_mem_replicate hr, by decide⟩
  enoughWrites := by decide +kernel
  enoughReads := by decide

theorem witness_CooperativeSessionReachesDone :
    Inv session ∧ session.busy = true ∧ session.seq = .start ∧ session.await = false ∧ session.port = none ∧
    session.host = [] ∧ session.cfg.ackFatal = false ∧ Cooperative session := ⟨inv_session, rfl, rfl, rfl, rfl, rfl, rfl, session_cooperates⟩

end Sys2Proof.Tests
end

/-! What every state and every run from reset keeps: reset itself (spec/10_state.md R40), the invariants of R42, the
sticky flags of R34, and that the block is never stuck. Each operation is characterised once, by what the state that it
answers has kept; the statements follow. -/
namespace Sys2Proof.Machine

/-! ### What an outcome answers -/

/-- The outcome is a next state, and the next state satisfies `P`. -/
def Answers (r : Result) (P : State → Prop) : Prop := ∃ t, r = .next t ∧ P t

theorem answers_next {P : State → Prop} {t : State} (h : P t) : Answers (.next t) P := ⟨t, rfl, h⟩

/-- An outcome has at most one next state. -/
theorem Answers.of_next {r : Result} {P : State → Prop} {t : State} (h : Answers r P) (hr : r = .next t) : P t := by
  obtain ⟨u, hu, hP⟩ := h
  cases hr.symm.trans hu
  exact hP

theorem Answers.mono {r : Result} {P Q : State → Prop} (h : Answers r P) (hPQ : ∀ t, P t → Q t) : Answers r Q := by
  obtain ⟨t, ht, hP⟩ := h
  exact ⟨t, ht, hPQ t hP⟩

/-! ### The registers of the session, the buffers, the flags -/

/-- `t` holds what `s` holds in the parameters, the configuration, the session's registers and the images; the units'
registers, the logs and the surroundings of the block may differ. -/
def SameSession (s t : State) : Prop :=
  t = { s with crc := t.crc, cmd := t.cmd, frm := t.frm, ack := t.ack, res := t.res, operr := t.operr
               ackflags := t.ackflags, lastack := t.lastack, history := t.history
               port := t.port, host := t.host, rx := t.rx, tx := t.tx }

namespace SameSession
variable {s t : State} (h : SameSession s t)
include h

theorem cfg : t.cfg = s.cfg := by rw [h]
theorem nimg : t.nimg = s.nimg := by rw [h]
theorem seq : t.seq = s.seq := by rw [h]
theorem img : t.img = s.img := by rw [h]
theorem off : t.off = s.off := by rw [h]
theorem await : t.await = s.await := by rw [h]
theorem busy : t.busy = s.busy := by rw [h]
theorem imgSize : t.size[t.img] = s.size[s.img] := by rw [h]

end SameSession

/-- Each buffer's length is within its capacity (spec/10_state.md R42). -/
structure BuffersFit (s : State) : Prop where
  cmd : s.cmd.length ≤ cmdMax s.cfg
  frm : s.frm.length ≤ frmMax s.cfg
  ack : s.ack.length ≤ ackBufLen s.cfg

theorem Inv.buffersFit {s : State} (h : Inv s) : BuffersFit s := ⟨h.cmdFits, h.frmFits, h.ackFits⟩

/-- The invariant speaks of the session's registers and of the buffers' lengths only. -/
theorem Inv.of_sameSession {s t : State} (h : Inv s) (same : SameSession s t) (fit : BuffersFit t) : Inv t := by
  obtain ⟨hcmd, hfrm, hack⟩ := fit
  rw [same] at hcmd hfrm hack ⊢
  exact { h with cmdFits := hcmd, frmFits := hfrm, ackFits := hack }

/-- Every flag of `ACKFLAGS` set in `s` is set in `t`. -/
def FlagsKept (s t : State) : Prop := s.ackflags &&& t.ackflags = s.ackflags

theorem FlagsKept.of_eq {s t : State} (h : t.ackflags = s.ackflags) : FlagsKept s t := by
  rw [FlagsKept, h, BitVec.and_self]

/-- A validation sets a flag and clears none (spec/43_response_validator.md R186). -/
theorem record_flagsKept (s : State) (v : AckKind × Byte) (k : Byte) : FlagsKept s (s.record v k) := by
  unfold FlagsKept
  ext i hi
  simp only [State.record, BitVec.getElem_and, BitVec.getElem_or, Bool.and_or_distrib_left, Bool.and_self,
    Bool.or_eq_left_iff_imp, Bool.and_eq_true, and_imp]
  intro hs _
  exact hs

/-- The host's input moves nothing but the port and the host's list. -/
theorem arrive_sameSession (s : State) : SameSession s s.arrive := by
  unfold SameSession
  rw [arrive_frame]

theorem Inv.arrive {s : State} (h : Inv s) : Inv s.arrive := by
  rw [arrive_frame]
  exact h.of_sameSession rfl ⟨h.cmdFits, h.frmFits, h.ackFits⟩

/-! ### The lengths that the codec and the builder produce -/

theorem escapeByte_length_le (x : Byte) : (escapeByte x).length ≤ 2 := by
  unfold escapeByte
  split
  · simp
  · split <;> simp

theorem escape_length_le (b : List Byte) : (escape b).length ≤ 2 * b.length := by
  induction b with
  | nil => simp [escape]
  | cons x b ih =>
    have hx := escapeByte_length_le x
    simp only [escape, List.flatMap_cons, List.length_append, List.length_cons] at ih ⊢
    omega

theorem escape_fits {c : Params} {b : List Byte} (h : b.length ≤ cmdMax c) : (escape b).length ≤ frmMax c := by
  have := escape_length_le b
  simp only [frmMax]
  omega

/-- The frame of a command that fits `CMD` fits `FRM` (spec/41_frame_codec.md R132). -/
theorem encodeFrame_fits {c : Params} {b : List Byte} (h : b.length ≤ cmdMax c) :
    (encodeFrame b).length ≤ frmMax c := by
  have := escape_length_le b
  simp only [encodeFrame, List.length_append, List.length_cons, List.length_nil, frmMax]
  omega

theorem raw_fits {c : Params} {b : List Byte} (h : b.length ≤ cmdMax c) : b.length ≤ frmMax c := by
  simp only [frmMax]
  omega

theorem helloCmd_fits (c : Params) (g : Bool) : (helloCmd c g).length ≤ cmdMax c := by
  rw [helloCmd_length]
  exact cmdMax_ge c

theorem closeCmd_fits (c : Params) : (closeCmd c).length ≤ cmdMax c := by
  have := cmdMax_ge c
  rw [closeCmd_length]
  omega

theorem openCmd_fits {c : Params} {p : Pos} {v : Word32} {b : List Byte} (h : openCmd c p v = some b) :
    b.length ≤ cmdMax c := by
  rw [openCmd_length c p v b h]
  exact openT_fits c p

theorem trailerCmd_fits {c : Params} {p : Pos} {v : Word32} {b : List Byte} (h : trailerCmd c p v = some b) :
    b.length ≤ cmdMax c := by
  rw [trailerCmd_length c p v b h]
  exact trailerT_fits c p

theorem inc2_length {t : List Byte} {o : Nat} (h : o + 2 ≤ t.length) : (inc2 t o).length = t.length :=
  patch_length _ _ _ h

/-- A buffer that is not full takes one more byte. -/
theorem append_fits {l : List Byte} {n : Nat} (b : Byte) (h : l.length ≤ n) (hfull : l.length ≠ n) :
    (l ++ [b]).length ≤ n := by
  simp only [List.length_append, List.length_singleton]
  omega

/-! ### What a request can do -/

/-- What one request leaves behind: it has touched the units' registers only, or has started a session, or has been
turned away with the abort `ConfigError`, or has written the configuration of the idle block. -/
inductive RequestEffect (s t : State) : Prop where
  | answered (same : SameSession s t) (fit : BuffersFit s → BuffersFit t) (flags : FlagsKept s t)
  | started (idle : s.isIdle = true) (ok : s.configOk = true) (eq : t = { s.performed with busy := true })
  | turnedAway (idle : s.isIdle = true) (bad : s.configOk = false) (eq : t = s.performed.abort .configError)
  | configured (idle : s.isIdle = true)
      (eq : t = { s.performed with gen2 := t.gen2, nimg := t.nimg, size := t.size })

section RequestEffects
variable {s t : State}

/-- A request that leaves the buffers and the flags alone. -/
theorem RequestEffect.of_buffers_eq (same : SameSession s t) (hcmd : t.cmd = s.cmd) (hfrm : t.frm = s.frm)
    (hack : t.ack = s.ack) (hflags : t.ackflags = s.ackflags) : RequestEffect s t :=
  .answered same (fun h => ⟨hcmd ▸ same.cfg ▸ h.cmd, hfrm ▸ same.cfg ▸ h.frm, hack ▸ same.cfg ▸ h.ack⟩) (.of_eq hflags)

/-- A request that fills `CMD`. -/
theorem RequestEffect.of_cmd_fits (same : SameSession s t) (hcmd : BuffersFit s → t.cmd.length ≤ cmdMax s.cfg)
    (hfrm : t.frm = s.frm) (hack : t.ack = s.ack) (hflags : t.ackflags = s.ackflags) : RequestEffect s t :=
  .answered same (fun h => ⟨same.cfg ▸ hcmd h, hfrm ▸ same.cfg ▸ h.frm, hack ▸ same.cfg ▸ h.ack⟩) (.of_eq hflags)

/-- A request that fills `FRM`. -/
theorem RequestEffect.of_frm_fits (same : SameSession s t) (hfrm : BuffersFit s → t.frm.length ≤ frmMax s.cfg)
    (hcmd : t.cmd = s.cmd) (hack : t.ack = s.ack) (hflags : t.ackflags = s.ackflags) : RequestEffect s t :=
  .answered same (fun h => ⟨hcmd ▸ same.cfg ▸ h.cmd, same.cfg ▸ hfrm h, hack ▸ same.cfg ▸ h.ack⟩) (.of_eq hflags)

/-- A request that fills `ACK`. -/
theorem RequestEffect.of_ack_fits (same : SameSession s t) (hack : BuffersFit s → t.ack.length ≤ ackBufLen s.cfg)
    (hcmd : t.cmd = s.cmd) (hfrm : t.frm = s.frm) (hflags : t.ackflags = s.ackflags) : RequestEffect s t :=
  .answered same (fun h => ⟨hcmd ▸ same.cfg ▸ h.cmd, hfrm ▸ same.cfg ▸ h.frm, same.cfg ▸ hack h⟩) (.of_eq hflags)

theorem refuse_effect (s : State) (e : OpErr) : RequestEffect s (s.refuse e) :=
  .of_buffers_eq rfl rfl rfl rfl rfl

theorem build_effect {c : List Byte} (h : c.length ≤ cmdMax s.cfg) : RequestEffect s (s.performed.build c) :=
  .of_cmd_fits rfl (fun _ => h) rfl rfl rfl

theorem whenIdle_effect {body : Result} (h : s.isIdle = true → Answers body (RequestEffect s)) :
    Answers (s.whenIdle body) (RequestEffect s) := by
  cases hi : s.isIdle with
  | true => rw [whenIdle_idle hi]; exact h hi
  | false => rw [whenIdle_not_idle hi]; exact answers_next (refuse_effect s .busy)

/-- An operation without a check of its own. -/
theorem performs_effect (h : RequestEffect s t) : Answers (s.whenIdle (.next t)) (RequestEffect s) :=
  whenIdle_effect fun _ => answers_next h

/-- An operation that one check of its own refuses. -/
theorem refusesIf_effect {c : Prop} [Decidable c] {e : OpErr} (h : ¬c → RequestEffect s t) :
    Answers (s.whenIdle (if c then .next (s.refuse e) else .next t)) (RequestEffect s) := by
  refine whenIdle_effect fun _ => ?_
  by_cases hc : c
  · rw [if_pos hc]; exact answers_next (refuse_effect s e)
  · rw [if_neg hc]; exact answers_next (h hc)

end RequestEffects

section Requests
variable (s : State)

/-! #### CRC Engine -/

theorem crcInit_effect : Answers (execCrcInit s) (RequestEffect s) :=
  performs_effect (.of_buffers_eq rfl rfl rfl rfl rfl)

theorem crcLoad_effect (init : Word16) : Answers (execCrcLoad init s) (RequestEffect s) :=
  performs_effect (.of_buffers_eq rfl rfl rfl rfl rfl)

theorem crcStep_effect (b : Byte) : Answers (execCrcStep b s) (RequestEffect s) :=
  performs_effect (.of_buffers_eq rfl rfl rfl rfl rfl)

theorem crcBuf_effect (n : Word32) : Answers (execCrcBuf n s) (RequestEffect s) :=
  refusesIf_effect fun _ => .of_buffers_eq rfl rfl rfl rfl rfl

theorem crcFinal_effect : Answers (execCrcFinal s) (RequestEffect s) :=
  performs_effect (.of_buffers_eq rfl rfl rfl rfl rfl)

/-! #### Frame Codec -/

theorem frmEsc_effect : Answers (execFrmEsc s) (RequestEffect s) :=
  performs_effect (.of_frm_fits rfl (fun h => escape_fits h.cmd) rfl rfl rfl)

theorem frmEnc_effect : Answers (execFrmEnc s) (RequestEffect s) :=
  performs_effect (.of_frm_fits rfl (fun h => encodeFrame_fits h.cmd) rfl rfl rfl)

theorem frmRaw_effect : Answers (execFrmRaw s) (RequestEffect s) :=
  performs_effect (.of_frm_fits rfl (fun h => raw_fits h.cmd) rfl rfl rfl)

/-- A decoding operation refuses an error and a result that does not fit (spec/41_frame_codec.md R142, R143). -/
theorem takeDecoded_effect (r : Except OpErr (List Byte)) : RequestEffect s (s.takeDecoded r) := by
  unfold State.takeDecoded
  split
  · exact refuse_effect s _
  · split
    · exact refuse_effect s _
    · rename_i hfits
      exact .of_cmd_fits rfl (fun _ => Nat.le_of_not_lt hfits) rfl rfl rfl

theorem frmUnesc_effect : Answers (execFrmUnesc s) (RequestEffect s) :=
  performs_effect (takeDecoded_effect s _)

theorem frmDec_effect : Answers (execFrmDec s) (RequestEffect s) :=
  performs_effect (takeDecoded_effect s _)

theorem txSend_effect : Answers (execTxSend s) (RequestEffect s) := by
  refine whenIdle_effect fun _ => ?_
  split
  · exact answers_next (.of_buffers_eq rfl rfl rfl rfl rfl)
  all_goals
    obtain ⟨rest, -, rfl⟩ := txWrite_some ‹_›
    exact answers_next (.of_buffers_eq rfl rfl rfl rfl rfl)

theorem frmClr_effect : Answers (execFrmClr s) (RequestEffect s) :=
  performs_effect (.of_frm_fits rfl (fun _ => Nat.zero_le _) rfl rfl rfl)

theorem frmPut_effect (b : Byte) : Answers (execFrmPut b s) (RequestEffect s) :=
  refusesIf_effect fun hfull => .of_frm_fits rfl
    (fun h => append_fits b h.frm hfull) rfl rfl rfl

/-! #### Command Builder -/

theorem cmdClr_effect : Answers (execCmdClr s) (RequestEffect s) :=
  performs_effect (.of_cmd_fits rfl (fun _ => Nat.zero_le _) rfl rfl rfl)

theorem cmdPut_effect (b : Byte) : Answers (execCmdPut b s) (RequestEffect s) :=
  refusesIf_effect fun hfull => .of_cmd_fits rfl
    (fun h => append_fits b h.cmd hfull) rfl rfl rfl

theorem cmdLoad_effect (t : Word32) : Answers (execCmdLoad t s) (RequestEffect s) := by
  refine whenIdle_effect fun _ => ?_
  split
  · exact answers_next (refuse_effect s _)
  · rename_i c hc
    exact answers_next (.of_cmd_fits rfl (fun _ => template_fits _ _ c hc) rfl rfl rfl)

theorem cmdPut32_effect (o v : Word32) : Answers (execCmdPut32 o v s) (RequestEffect s) :=
  refusesIf_effect fun hshort => .of_cmd_fits rfl
    (fun h => (patch_length s.cmd o.toNat (le32 v) (Nat.le_of_not_lt hshort)).trans_le h.cmd) rfl rfl rfl

theorem cmdInc2_effect (o : Word32) : Answers (execCmdInc2 o s) (RequestEffect s) :=
  refusesIf_effect fun hshort => .of_cmd_fits rfl
    (fun h => (inc2_length (Nat.le_of_not_lt hshort)).trans_le h.cmd) rfl rfl rfl

theorem cmdCrcpatch_effect : Answers (execCmdCrcpatch s) (RequestEffect s) :=
  refusesIf_effect fun hshort => .of_cmd_fits rfl
    (fun h => (sealCmd_length s.cmd (Nat.le_of_not_lt hshort)).trans_le h.cmd) rfl rfl rfl

theorem cmdHello_effect (g : Bool) : Answers (execCmdHello g s) (RequestEffect s) :=
  performs_effect (build_effect (helloCmd_fits s.cfg g))

theorem cmdOpen_effect (p size : Word32) : Answers (execCmdOpen p size s) (RequestEffect s) := by
  refine whenIdle_effect fun _ => ?_
  split
  · exact answers_next (refuse_effect s _)
  · rename_i c hc
    obtain ⟨i, -, hi⟩ := Option.bind_eq_some_iff.mp hc
    exact answers_next (build_effect (openCmd_fits hi))

theorem cmdTrailer_effect (p size : Word32) : Answers (execCmdTrailer p size s) (RequestEffect s) := by
  refine whenIdle_effect fun _ => ?_
  split
  · exact answers_next (refuse_effect s _)
  · rename_i c hc
    obtain ⟨i, -, hi⟩ := Option.bind_eq_some_iff.mp hc
    exact answers_next (build_effect (trailerCmd_fits hi))

theorem cmdClose_effect : Answers (execCmdClose s) (RequestEffect s) :=
  performs_effect (build_effect (closeCmd_fits s.cfg))

/-! #### Response Validator -/

theorem ackClr_effect : Answers (execAckClr s) (RequestEffect s) :=
  performs_effect (.of_ack_fits rfl (fun _ => Nat.zero_le _) rfl rfl rfl)

theorem ackPut_effect (b : Byte) : Answers (execAckPut b s) (RequestEffect s) :=
  refusesIf_effect fun hfull => .of_ack_fits rfl
    (fun h => append_fits b h.ack hfull) rfl rfl rfl

theorem ackRecv_effect : Answers (execAckRecv s) (RequestEffect s) := by
  refine whenIdle_effect fun _ => ?_
  split
  · exact answers_next (.of_buffers_eq rfl rfl rfl rfl rfl)
  · rename_i r t hread
    have hlen := rxRead_burst_length hread
    obtain ⟨d, rest, -, -, rfl⟩ := rxRead_burst hread
    exact answers_next (.of_ack_fits rfl (fun _ => hlen) rfl rfl rfl)
  · obtain ⟨rest, -, rfl⟩ := rxRead_error ‹_›
    exact answers_next (.of_buffers_eq rfl rfl rfl rfl rfl)

theorem ackCheck_effect (k : Byte) : Answers (execAckCheck k s) (RequestEffect s) :=
  performs_effect (.answered rfl (fun h => ⟨h.cmd, h.frm, h.ack⟩) (record_flagsKept s _ k))

/-! #### Host access -/

theorem seqRun_effect : Answers (execSeqRun s) (RequestEffect s) := by
  refine whenIdle_effect fun hidle => ?_
  cases hok : s.configOk with
  | true => exact answers_next (.started hidle hok rfl)
  | false => exact answers_next (.turnedAway hidle hok rfl)

/-- `REG.WR` reaches the configuration registers only (spec/44_transfer_sequencer.md R193). -/
theorem writeReg_frame {s t : State} {r : Reg} {v : Word32} (h : s.writeReg r v = some t) :
    t = { s with gen2 := t.gen2, nimg := t.nimg, size := t.size } := by
  cases r <;> cases h <;> rfl

theorem regWr_effect (r v : Word32) : Answers (execRegWr r v s) (RequestEffect s) := by
  refine whenIdle_effect fun hidle => ?_
  split
  · exact answers_next (refuse_effect s _)
  · rename_i t ht
    obtain ⟨g, -, hg⟩ := Option.bind_eq_some_iff.mp ht
    refine answers_next (.configured hidle ?_)
    rw [writeReg_frame hg]
    rfl

theorem regRd_effect (r : Word32) : Answers (execRegRd r s) (RequestEffect s) := by
  unfold execRegRd
  split
  · exact answers_next (refuse_effect s _)
  · exact answers_next (.of_buffers_eq rfl rfl rfl rfl rfl)

theorem bufRd_effect (space index : Word32) : Answers (execBufRd space index s) (RequestEffect s) := by
  unfold execBufRd
  split
  · exact answers_next (refuse_effect s _)
  · exact answers_next (.of_buffers_eq rfl rfl rfl rfl rfl)

end Requests

/-- Every request is answered, in every state, with one of the four effects. -/
theorem request_effect {i : Instr} (hi : isRequest i = true) (s : State) : Answers (exec i s) (RequestEffect s) := by
  cases i with
  | crcInit => exact crcInit_effect s
  | crcLoad init => exact crcLoad_effect s init
  | crcStep b => exact crcStep_effect s b
  | crcBuf n => exact crcBuf_effect s n
  | crcFinal => exact crcFinal_effect s
  | frmEsc => exact frmEsc_effect s
  | frmEnc => exact frmEnc_effect s
  | frmRaw => exact frmRaw_effect s
  | frmUnesc => exact frmUnesc_effect s
  | frmDec => exact frmDec_effect s
  | txSend => exact txSend_effect s
  | frmClr => exact frmClr_effect s
  | frmPut b => exact frmPut_effect s b
  | cmdClr => exact cmdClr_effect s
  | cmdPut b => exact cmdPut_effect s b
  | cmdLoad t => exact cmdLoad_effect s t
  | cmdPut32 o v => exact cmdPut32_effect s o v
  | cmdInc2 o => exact cmdInc2_effect s o
  | cmdCrcpatch => exact cmdCrcpatch_effect s
  | cmdHello g => exact cmdHello_effect s g
  | cmdOpen p size => exact cmdOpen_effect s p size
  | cmdTrailer p size => exact cmdTrailer_effect s p size
  | cmdClose => exact cmdClose_effect s
  | ackClr => exact ackClr_effect s
  | ackPut b => exact ackPut_effect s b
  | ackRecv => exact ackRecv_effect s
  | ackCheck k => exact ackCheck_effect s k
  | seqRun => exact seqRun_effect s
  | regWr r v => exact regWr_effect s r v
  | regRd r => exact regRd_effect s r
  | bufRd space index => exact bufRd_effect s space index
  | _ => cases hi

/-- Only requests come out of the request decoder. -/
theorem isRequest_of_decodeRequest {w : RequestWord} {i : Instr} (h : decodeRequest w = .ok i) : isRequest i = true := by
  unfold decodeRequest at h
  simp only at h
  split at h <;> cases h <;> rfl

/-! ### The admitted configuration (spec/44_transfer_sequencer.md R195) -/

theorem configOk_iff (s : State) :
    s.configOk = true ↔
      (s.nimg = 2 ∨ s.nimg = 3) ∧ (s.nimg = 3 → s.gen2 = true) ∧
      (s.size[0].toNat < 2 ^ 32 ∧ s.size[1].toNat < 2 ^ 32 ∧ (s.nimg = 3 → s.size[2].toNat < 2 ^ 32)) ∧
      8 ≤ s.size[0].toNat ∧ 8 ≤ s.size[0].toNat % chunk := by
  have hlt (n : Nat) : n ≤ 0xFFFFFFFF ↔ n < 2 ^ 32 := by omega
  simp only [State.configOk, Bool.and_eq_true, Bool.or_eq_true, beq_iff_eq, bne_iff_ne, decide_eq_true_eq, hlt,
    ne_eq, ← imp_iff_not_or, and_assoc]

/-- An admitted session has two images or three. -/
theorem nimg_of_configOk {s : State} (h : s.configOk = true) : s.nimg.toNat = 2 ∨ s.nimg.toNat = 3 := by
  obtain ⟨hn, -⟩ := (configOk_iff s).mp h
  rcases hn with hn | hn
  · exact .inl (by rw [hn]; rfl)
  · exact .inr (by rw [hn]; rfl)

/-- The size of an image of an admitted session is a 32-bit number (R195 (c)). -/
theorem size_lt_of_configOk {s : State} (h : s.configOk = true) {p : Pos} (hp : p.val < s.nimg.toNat) :
    s.size[p].toNat < 2 ^ 32 := by
  obtain ⟨hn, -, ⟨h0, h1, h2⟩, -⟩ := (configOk_iff s).mp h
  match p, hp with
  | 0, _ => exact h0
  | 1, _ => exact h1
  | 2, hp =>
    refine h2 (hn.resolve_left fun hn2 => ?_)
    rw [hn2] at hp
    exact absurd hp (by decide)

/-- The size of an image of an admitted session is its low word. -/
theorem sizeLo_toNat {s : State} (h : s.configOk = true) {p : Pos} (hp : p.val < s.nimg.toNat) :
    (s.sizeLo p).toNat = s.size[p].toNat := by
  have := size_lt_of_configOk h hp
  rw [State.sizeLo, BitVec.extractLsb'_toNat, Nat.shiftRight_zero]
  exact Nat.mod_eq_of_lt this

/-- In an admitted session `adj` has a value for every image (R195 (d), spec/42_command_builder.md R158). -/
theorem exists_adj {s : State} (h : s.configOk = true) {p : Pos} (hp : p.val < s.nimg.toNat) :
    ∃ v, adj p (s.sizeLo p) = some v := by
  obtain ⟨-, -, -, h8, -⟩ := (configOk_iff s).mp h
  unfold adj
  split
  · rename_i hp0
    have hge : trailerAdj ≤ (s.sizeLo p).toNat := by
      rw [sizeLo_toNat h hp, hp0]
      exact h8
    exact ⟨_, if_pos hge⟩
  · exact ⟨_, rfl⟩

theorem exists_openCmd {s : State} (h : s.configOk = true) {p : Pos} (hp : p.val < s.nimg.toNat) :
    ∃ c, openCmd s.cfg p (s.sizeLo p) = some c := by
  obtain ⟨v, hv⟩ := exists_adj h hp
  exact ⟨_, by rw [openCmd, hv, Option.map_some]⟩

theorem exists_trailerCmd {s : State} (h : s.configOk = true) {p : Pos} (hp : p.val < s.nimg.toNat) :
    ∃ c, trailerCmd s.cfg p (s.sizeLo p) = some c := by
  obtain ⟨v, hv⟩ := exists_adj h hp
  exact ⟨_, by rw [trailerCmd, hv, Option.map_some]⟩

/-! ### The invariant across a request -/

theorem Inv.await_of_idle {s : State} (h : Inv s) (hidle : s.isIdle = true) : s.await = false := by
  obtain ⟨hbusy, -⟩ := (isIdle_iff s).mp hidle
  exact Bool.eq_false_iff.mpr fun ha => absurd (h.awaitBusy ha) (by rw [hbusy]; decide)

/-- `SEQ.RUN` on the idle block starts at image 0 with nothing awaited. -/
theorem Inv.start {s : State} (h : Inv s) (hidle : s.isIdle = true) (hok : s.configOk = true) :
    Inv { s with busy := true } := by
  obtain ⟨-, hseq⟩ := (isIdle_iff s).mp hidle
  have hawait := h.await_of_idle hidle
  have himg := h.imgFirst (.inl hseq)
  have hn := nimg_of_configOk hok
  exact { h with
    busyRuns := fun _ => by simp [hseq]
    awaitBusy := fun _ => rfl
    imgBelow := fun _ => by simp only [himg]; rcases hn with hn | hn <;> simp [hn]
    restSeq := fun hb => by cases hb
    configRuns := fun _ => hok }

/-- Abort entry keeps the invariant, from every block that is not finished (spec/60_exceptions.md R240). -/
theorem Inv.abort {s : State} (h : Inv s) (hseq : s.seq ≠ .done) {c : Cause} (hc : c ≠ .none) : Inv (s.abort c) := by
  have hdone : s.done = false := Bool.eq_false_iff.mpr fun hd => hseq (h.doneIff.mp hd)
  have hfit := h.buffersFit
  constructor <;> simp [hdone, hc, hfit.cmd, hfit.frm, hfit.ack]

/-- The idle block's configuration is free: no clause of the invariant speaks of it before `SEQ.RUN`. -/
theorem Inv.configure {s t : State} (h : Inv s) (hidle : s.isIdle = true)
    (frame : t = { s with gen2 := t.gen2, nimg := t.nimg, size := t.size }) : Inv t := by
  obtain ⟨hbusy, hseq⟩ := (isIdle_iff s).mp hidle
  rw [frame]
  exact { h with
    imgBelow := fun hb => absurd hb (by simp [hbusy])
    offBelow := fun hs => absurd hs (by simp [hseq])
    configRuns := fun hb => absurd hb (by simp [hbusy])
    offEnd := fun hs => absurd hs (by simp [hseq])
    nextOpen := fun hs => absurd hs (by simp [hseq])
    closeLast := fun hs => absurd hs (by simp [hseq]) }

theorem Inv.performed {s : State} (h : Inv s) : Inv s.performed :=
  h.of_sameSession rfl ⟨h.cmdFits, h.frmFits, h.ackFits⟩

/-- Every request keeps the invariant. -/
theorem RequestEffect.inv {s t : State} (e : RequestEffect s t) (h : Inv s) : Inv t := by
  cases e with
  | answered same fit _ => exact h.of_sameSession same (fit h.buffersFit)
  | started hidle hok eq =>
    rw [eq]
    exact h.performed.start hidle hok
  | turnedAway hidle _ eq =>
    obtain ⟨-, hseq⟩ := (isIdle_iff s).mp hidle
    rw [eq]
    exact h.performed.abort (by simp [hseq]) (by decide)
  | configured hidle eq => exact h.performed.configure hidle eq

/-! ### The invariant across a step of the sequencer -/

/-- The clauses of the invariant that tie the sequencer's own registers to each other while a session runs. -/
structure SessionAt (s : State) : Prop where
  seqRuns : s.seq ≠ .done ∧ s.seq ≠ .aborted
  awaitSeq : s.await = true →
    s.seq = .start ∨ s.seq = .helloSent ∨ s.seq = .imageStreaming ∨ s.seq = .imageAcked
  imgBelow : s.img.val < s.nimg.toNat
  offBelow : s.seq = .imageStreaming → s.off.toNat ≤ s.size[s.img].toNat
  imgFirst : s.seq = .start ∨ s.seq = .helloSent → s.img = 0
  offWhole : s.seq = .imageStreaming → s.await = false → s.off.toNat % chunk = 0
  offEnd : s.seq = .imageStreaming → s.await = true → s.off.toNat = s.size[s.img].toNat
  nextOpen : s.seq = .imageAcked → s.await = true → s.img.val + 1 < s.nimg.toNat
  expectCode : s.await = true →
    s.expect = if s.seq = .start then 0x02 else if s.seq = .imageStreaming then 0x28 else 0x26
  closeLast : s.seq = .closing → s.img.val + 1 = s.nimg.toNat

/-- A running block that moves its sequencer's registers to consistent ones keeps the invariant. -/
theorem Inv.advance {s t : State} (h : Inv s) (hbusy : s.busy = true)
    (frame : t = { s with seq := t.seq, img := t.img, off := t.off, await := t.await, expect := t.expect })
    (regs : SessionAt t) : Inv t := by
  obtain ⟨hdone, haborted⟩ := h.busyRuns hbusy
  obtain ⟨tdone, taborted⟩ := regs.seqRuns
  have hok := h.configRuns hbusy
  rw [frame] at regs tdone taborted ⊢
  exact { h with
    doneIff := iff_of_false (fun hd => hdone (h.doneIff.mp hd)) tdone
    abortedIff := iff_of_false (fun ha => haborted (h.abortedIff.mp ha)) taborted
    busyRuns := fun _ => ⟨tdone, taborted⟩
    awaitBusy := fun _ => hbusy
    causeIff := iff_of_true (h.causeIff.mpr haborted) taborted
    restSeq := fun hb => absurd (hbusy.symm.trans hb) (by decide)
    configRuns := fun _ => hok
    awaitSeq := regs.awaitSeq
    imgBelow := fun _ => regs.imgBelow
    offBelow := regs.offBelow
    imgFirst := regs.imgFirst
    offWhole := regs.offWhole
    offEnd := regs.offEnd
    nextOpen := regs.nextOpen
    expectCode := regs.expectCode
    closeLast := regs.closeLast }

theorem Inv.nimg_pos {s : State} (h : Inv s) (hbusy : s.busy = true) : 0 < s.nimg.toNat :=
  Nat.zero_lt_of_lt (h.imgBelow hbusy)

section Transitions
variable {s : State} (h : Inv s) (hbusy : s.busy = true)
include h hbusy

/-- Hello is sent (spec/44_transfer_sequencer.md R197). -/
theorem Inv.helloAwaited (hseq : s.seq = .start) : Inv (s.expectAck ackHello) :=
  h.advance hbusy rfl (by constructor <;> simp [hseq, h.imgFirst, h.nimg_pos hbusy, ackHello])

/-- Hello is acknowledged (R198). -/
theorem Inv.helloSent (hseq : s.seq = .start) : Inv { s with await := false, seq := .helloSent } :=
  h.advance hbusy rfl (by constructor <;> simp [hseq, h.imgFirst, h.nimg_pos hbusy])

/-- OpenImage of the first image is sent (R199). -/
theorem Inv.firstOpenAwaited (hseq : s.seq = .helloSent) : Inv (s.expectAck ackOpen) :=
  h.advance hbusy rfl (by constructor <;> simp [hseq, h.imgFirst, h.nimg_pos hbusy, ackOpen])

/-- OpenImage of a next image is sent (R199). -/
theorem Inv.nextOpenAwaited (hseq : s.seq = .imageAcked) (hnext : s.img.val + 1 < s.nimg.toNat) :
    Inv (s.expectAck ackOpen) :=
  h.advance hbusy rfl (by constructor <;> simp [hseq, hnext, h.imgBelow hbusy, ackOpen])

/-- OpenImage is acknowledged: `j` is the image in progress (R200). -/
theorem Inv.imageOpen {j : Pos} (hj : j.val < s.nimg.toNat) :
    Inv { s with await := false, img := j, seq := .imageOpen } :=
  h.advance hbusy rfl (by constructor <;> simp [hj])

/-- SizeTrailer is sent, nothing is streamed yet (R201). -/
theorem Inv.streamingStarts (hawait : s.await = false) : Inv { s with off := 0, seq := .imageStreaming } :=
  h.advance hbusy rfl (by constructor <;> simp [hawait, h.imgBelow hbusy])

/-- One more whole chunk is sent (R203). -/
theorem Inv.chunkSent {o : Word32} (hseq : s.seq = .imageStreaming) (hawait : s.await = false)
    (hle : o.toNat ≤ s.size[s.img].toNat) (hwhole : o.toNat % chunk = 0) : Inv { s with off := o } :=
  h.advance hbusy rfl (by
    rw [Fin.getElem_fin] at hle
    constructor <;> simp [hseq, hawait, hle, hwhole, h.imgBelow hbusy])

/-- The final chunk is sent (R203). -/
theorem Inv.dataAwaited {o : Word32} (hseq : s.seq = .imageStreaming) (hend : o.toNat = s.size[s.img].toNat) :
    Inv ({ s with off := o }.expectAck ackData) :=
  h.advance hbusy rfl (by constructor <;> simp [hseq, hend, h.imgBelow hbusy, ackData])

/-- The data is acknowledged (R204). -/
theorem Inv.imageAcked : Inv { s with await := false, seq := .imageAcked } :=
  h.advance hbusy rfl (by constructor <;> simp [h.imgBelow hbusy])

/-- Close is sent after the last image (R205). -/
theorem Inv.closeSent (hawait : s.await = false) (hlast : s.img.val + 1 = s.nimg.toNat) :
    Inv { s with seq := .closing } :=
  h.advance hbusy rfl (by constructor <;> simp [hawait, hlast, h.imgBelow hbusy])

end Transitions

/-- The session is over (R206). -/
theorem Inv.finished {s : State} (h : Inv s) (hseq : s.seq = .closing) (hawait : s.await = false) :
    Inv { s with seq := .done, done := true, busy := false } := by
  have hfit := h.buffersFit
  have hcause : s.cause = .none := h.causeIff.mpr (by simp [hseq])
  have haborted : s.aborted = false := Bool.eq_false_iff.mpr fun ha => absurd (h.abortedIff.mp ha) (by simp [hseq])
  constructor <;> simp [hawait, hcause, haborted, hfit.cmd, hfit.frm, hfit.ack]

theorem SameSession.trans {s t u : State} (hst : SameSession s t) (htu : SameSession t u) : SameSession s u := by
  unfold SameSession
  rw [htu, hst]

section SharedSteps
variable {s : State} (h : Inv s) (hbusy : s.busy = true)
include h hbusy

theorem Inv.seq_ne_done : s.seq ≠ .done := (h.busyRuns hbusy).1

/-- A sending step keeps the invariant where what follows the write does. -/
theorem transmit_keeps {before : State} {b : List Byte} {after : State → State} (same : SameSession s before)
    (fit : BuffersFit before) (hafter : ∀ u, SameSession s u → Inv u → Inv (after u)) :
    Answers (s.transmit before b after) Inv := by
  have hsent (rest : List TxResult) (r : TxResult) :
      SameSession s { before with tx := rest, history := before.history ++ [.tx b r] } := same.trans rfl
  have hinv (rest : List TxResult) (r : TxResult) :
      Inv { before with tx := rest, history := before.history ++ [.tx b r] } :=
    h.of_sameSession (hsent rest r) ⟨fit.cmd, fit.frm, fit.ack⟩
  obtain ⟨t, ht⟩ := transmit_is_next s before b after
  refine ⟨t, ht, ?_⟩
  rcases transmit_next ht with ⟨-, rfl⟩ | ⟨rest, -, rfl⟩ | ⟨rest, -, rfl⟩
  · exact h
  · exact hafter _ (hsent rest .ok) (hinv rest .ok)
  · exact (hinv rest .failed).abort ((hsent rest .failed).seq ▸ h.seq_ne_done hbusy) (by decide)

theorem sendFramed_keeps {c : List Byte} {after : State → State} (hc : c.length ≤ cmdMax s.cfg)
    (hafter : ∀ u, SameSession s u → Inv u → Inv (after u)) : Answers (s.sendFramed c after) Inv :=
  transmit_keeps h hbusy rfl ⟨hc, encodeFrame_fits hc, h.ackFits⟩ hafter

theorem sendUnframed_keeps {c : List Byte} {after : State → State} (hc : c.length ≤ cmdMax s.cfg)
    (hafter : ∀ u, SameSession s u → Inv u → Inv (after u)) : Answers (s.sendUnframed c after) Inv :=
  transmit_keeps h hbusy rfl ⟨hc, raw_fits hc, h.ackFits⟩ hafter

/-- An awaiting step keeps the invariant where what follows the read does. -/
theorem awaitAck_keeps {k : Byte} {after : State → State}
    (hafter : ∀ u, SameSession s u → Inv u → Inv (after u)) : Answers (s.awaitAck k after) Inv := by
  have hdone := h.seq_ne_done hbusy
  have hburst {r : List Byte} {u : State} (hu : s.rxRead = some (.burst r, u)) (v : AckKind × Byte) :
      SameSession s (u.record v k) ∧ Inv (u.record v k) := by
    have hlen := rxRead_burst_length hu
    obtain ⟨d, rest, -, -, rfl⟩ := rxRead_burst hu
    exact ⟨rfl, h.of_sameSession rfl ⟨h.cmdFits, h.frmFits, hlen⟩⟩
  obtain ⟨t, ht⟩ := awaitAck_is_next s k after
  refine ⟨t, ht, ?_⟩
  rcases awaitAck_next ht with ⟨-, rfl⟩ | ⟨u, hu, rfl⟩ | ⟨r, u, hu, -, -, rfl⟩ | ⟨r, u, hu, -, rfl⟩
  · exact h
  · obtain ⟨rest, -, rfl⟩ := rxRead_error hu
    have hinv : Inv { s with rx := rest, history := s.history ++ [.rx .error] } :=
      h.of_sameSession rfl ⟨h.cmdFits, h.frmFits, h.ackFits⟩
    exact hinv.abort hdone (by decide)
  · obtain ⟨same, hinv⟩ := hburst hu (validate r k)
    exact hinv.abort (same.seq ▸ hdone) (by decide)
  · obtain ⟨same, hinv⟩ := hburst hu (validate r k)
    exact hafter _ same hinv

/-- `S.OPEN_TX` for an image of the session always has a command to send. -/
theorem openTx_keeps {j : Pos} (hj : j.val < s.nimg.toNat)
    (hafter : ∀ u, SameSession s u → Inv u → Inv (u.expectAck ackOpen)) : Answers (s.openTx j) Inv := by
  obtain ⟨c, hc⟩ := exists_openCmd (h.configRuns hbusy) hj
  rw [State.openTx, hc]
  exact sendFramed_keeps h hbusy (openCmd_fits hc) hafter

theorem openAckTo_keeps {j : Pos} (hj : j.val < s.nimg.toNat) : Answers (s.openAckTo j) Inv :=
  awaitAck_keeps h hbusy fun _ same hu => hu.imageOpen (same.busy.trans hbusy) (same.nimg ▸ hj)

end SharedSteps

/-- An image below the number of images is a position. -/
theorem nextImg_of_lt {s : State} (hok : s.configOk = true) (hnext : s.img.val + 1 < s.nimg.toNat) :
    ∃ j, s.nextImg = some j ∧ j.val < s.nimg.toNat := by
  have hn := nimg_of_configOk hok
  have h3 : s.img.val + 1 < 3 := by omega
  exact ⟨⟨s.img.val + 1, h3⟩, dif_pos h3, hnext⟩

/-- A chunk that stays within a 32-bit size does not wrap `OFF`. -/
theorem off_add_toNat {o : Word32} {n size : Nat} (hle : o.toNat + n ≤ size) (hsize : size < 2 ^ 32) :
    (o + BitVec.ofNat 32 n).toNat = o.toNat + n := by
  rw [BitVec.toNat_add, BitVec.toNat_ofNat, Nat.add_mod_mod]
  exact Nat.mod_eq_of_lt (hle.trans_lt hsize)

/-- Where whole chunks have been sent and less than one is left, what is left is the size modulo the chunk. -/
theorem rest_eq_mod {o size : Nat} (hwhole : o % chunk = 0) (hle : o ≤ size) (hlt : size - o < chunk) :
    size - o = size % chunk := by
  simp only [chunk] at *
  omega

/-! ### Each step of the sequencer keeps the invariant -/

section Steps
variable {s : State} (h : Inv s)
include h

theorem sHelloTx_keeps (hsel : s.selected = some .sHelloTx) : Answers (exec .sHelloTx s) Inv := by
  obtain ⟨hbusy, hseq, -⟩ := (selected_sHelloTx s).mp hsel
  change Answers (execSHelloTx s) Inv
  rw [execSHelloTx, whenSelected_selected hsel]
  exact sendFramed_keeps h hbusy (helloCmd_fits _ _) fun _ same hu =>
    hu.helloAwaited (same.busy.trans hbusy) (same.seq.trans hseq)

theorem sHelloAck_keeps (hsel : s.selected = some .sHelloAck) : Answers (exec .sHelloAck s) Inv := by
  obtain ⟨hbusy, hseq, -⟩ := (selected_sHelloAck s).mp hsel
  change Answers (execSHelloAck s) Inv
  rw [execSHelloAck, whenSelected_selected hsel]
  exact awaitAck_keeps h hbusy fun _ same hu => hu.helloSent (same.busy.trans hbusy) (same.seq.trans hseq)

theorem sOpenTxFirst_keeps (hsel : s.selected = some .sOpenTxFirst) : Answers (exec .sOpenTxFirst s) Inv := by
  obtain ⟨hbusy, hseq, -⟩ := (selected_sOpenTxFirst s).mp hsel
  change Answers (execSOpenTxFirst s) Inv
  rw [execSOpenTxFirst, whenSelected_selected hsel]
  exact openTx_keeps h hbusy (h.nimg_pos hbusy) fun _ same hu =>
    hu.firstOpenAwaited (same.busy.trans hbusy) (same.seq.trans hseq)

/-- `LAST = 0` leaves a next image. -/
theorem sOpenTxNext_keeps (hsel : s.selected = some .sOpenTxNext) : Answers (exec .sOpenTxNext s) Inv := by
  obtain ⟨hbusy, hseq, -, hlast⟩ := (selected_sOpenTxNext s).mp hsel
  have hne : s.img.val + 1 ≠ s.nimg.toNat := by simpa only [State.last, beq_eq_false_iff_ne] using hlast
  have hnext : s.img.val + 1 < s.nimg.toNat := lt_of_le_of_ne (h.imgBelow hbusy) hne
  obtain ⟨j, hj, hjn⟩ := nextImg_of_lt (h.configRuns hbusy) hnext
  change Answers (execSOpenTxNext s) Inv
  rw [execSOpenTxNext, whenSelected_selected hsel, hj]
  exact openTx_keeps h hbusy hjn fun _ same hu =>
    hu.nextOpenAwaited (same.busy.trans hbusy) (same.seq.trans hseq) (same.img ▸ same.nimg ▸ hnext)

theorem sOpenAckFirst_keeps (hsel : s.selected = some .sOpenAckFirst) : Answers (exec .sOpenAckFirst s) Inv := by
  obtain ⟨hbusy, -⟩ := (selected_sOpenAckFirst s).mp hsel
  change Answers (execSOpenAckFirst s) Inv
  rw [execSOpenAckFirst, whenSelected_selected hsel]
  exact openAckTo_keeps h hbusy (h.nimg_pos hbusy)

theorem sOpenAckNext_keeps (hsel : s.selected = some .sOpenAckNext) : Answers (exec .sOpenAckNext s) Inv := by
  obtain ⟨hbusy, hseq, hawait⟩ := (selected_sOpenAckNext s).mp hsel
  obtain ⟨j, hj, hjn⟩ := nextImg_of_lt (h.configRuns hbusy) (h.nextOpen hseq hawait)
  change Answers (execSOpenAckNext s) Inv
  rw [execSOpenAckNext, whenSelected_selected hsel, hj]
  exact openAckTo_keeps h hbusy hjn

theorem sTrailerTx_keeps (hsel : s.selected = some .sTrailerTx) : Answers (exec .sTrailerTx s) Inv := by
  obtain ⟨hbusy, -, hawait⟩ := (selected_sTrailerTx s).mp hsel
  obtain ⟨c, hc⟩ := exists_trailerCmd (h.configRuns hbusy) (h.imgBelow hbusy)
  change Answers (execSTrailerTx s) Inv
  rw [execSTrailerTx, whenSelected_selected hsel, hc]
  exact sendUnframed_keeps h hbusy (trailerCmd_fits hc) fun _ same hu =>
    hu.streamingStarts (same.busy.trans hbusy) (same.await.trans hawait)

/-- `OFF` stays within the size, so it never wraps; and the first image's final chunk holds the 8 bytes that are not
sent, by condition (e) of R195. -/
theorem sChunk_keeps (hsel : s.selected = some .sChunk) : Answers (exec .sChunk s) Inv := by
  obtain ⟨hbusy, hseq, hawait⟩ := (selected_sChunk s).mp hsel
  have hok := h.configRuns hbusy
  have hlt := size_lt_of_configOk hok (h.imgBelow hbusy)
  have hle := h.offBelow hseq
  have hwhole := h.offWhole hseq hawait
  have hlo := sizeLo_toNat hok (h.imgBelow hbusy)
  have hlen : s.chunkLen = min chunk (s.size[s.img].toNat - s.off.toNat) := by rw [State.chunkLen, hlo]
  change Answers (execSChunk s) Inv
  rw [execSChunk, whenSelected_selected hsel]
  simp only [hlo]
  rw [if_neg (Nat.not_lt.mpr hle)]
  split
  · rename_i hfull
    have hfits : s.off.toNat + chunk ≤ s.size[s.img].toNat := by omega
    have hadd := off_add_toNat hfits hlt
    refine transmit_keeps h hbusy rfl h.buffersFit fun u same hu => ?_
    refine hu.chunkSent (same.busy.trans hbusy) (same.seq.trans hseq) (same.await.trans hawait) ?_ ?_
    · rw [same.off, same.imgSize, hadd]
      exact hfits
    · rw [same.off, hadd, Nat.add_mod_right]
      exact hwhole
  · rename_i hpart
    have hrest : s.chunkLen = s.size[s.img].toNat - s.off.toNat := by omega
    have hend : s.off.toNat + s.chunkLen = s.size[s.img].toNat := by omega
    have hkept : ¬(s.img = 0 ∧ s.chunkLen < trailerAdj) := by
      rintro ⟨himg, hshort⟩
      obtain ⟨-, -, -, -, h8⟩ := (configOk_iff s).mp hok
      have hmod := rest_eq_mod hwhole hle (by omega)
      have hge : 8 ≤ s.size[s.img].toNat % chunk := by
        simp only [himg]
        exact h8
      simp only [trailerAdj] at hshort
      omega
    rw [if_neg hkept]
    refine transmit_keeps h hbusy rfl h.buffersFit fun u same hu => ?_
    refine hu.dataAwaited (same.busy.trans hbusy) (same.seq.trans hseq) ?_
    rw [same.off, same.imgSize, off_add_toNat hend.le hlt]
    exact hend

theorem sDataAck_keeps (hsel : s.selected = some .sDataAck) : Answers (exec .sDataAck s) Inv := by
  obtain ⟨hbusy, -⟩ := (selected_sDataAck s).mp hsel
  change Answers (execSDataAck s) Inv
  rw [execSDataAck, whenSelected_selected hsel]
  exact awaitAck_keeps h hbusy fun _ same hu => hu.imageAcked (same.busy.trans hbusy)

theorem sCloseTx_keeps (hsel : s.selected = some .sCloseTx) : Answers (exec .sCloseTx s) Inv := by
  obtain ⟨hbusy, -, hawait, hlast⟩ := (selected_sCloseTx s).mp hsel
  have hlast : s.img.val + 1 = s.nimg.toNat := by simpa only [State.last, beq_iff_eq] using hlast
  change Answers (execSCloseTx s) Inv
  rw [execSCloseTx, whenSelected_selected hsel]
  exact sendFramed_keeps h hbusy (closeCmd_fits _) fun _ same hu =>
    hu.closeSent (same.busy.trans hbusy) (same.await.trans hawait) (same.img ▸ same.nimg ▸ hlast)

theorem sFinish_keeps (hsel : s.selected = some .sFinish) : Answers (exec .sFinish s) Inv := by
  obtain ⟨-, hseq, hawait⟩ := (selected_sFinish s).mp hsel
  change Answers (execSFinish s) Inv
  rw [execSFinish, whenSelected_selected hsel]
  exact answers_next (h.finished hseq hawait)

end Steps

/-! ### Every step keeps the invariant -/

theorem decodeSelector_of_selected {s : State} {i : Instr} (h : s.selected = some i) :
    decodeSelector s.selector = .ok i := by
  unfold State.selected at h
  split at h
  · cases hd : decodeSelector s.selector with
    | ok j => rw [hd] at h; cases h; rfl
    | error e => rw [hd] at h; cases h
  · cases h

theorem busy_of_selected {s : State} {i : Instr} (h : s.selected = some i) : s.busy = true := by
  unfold State.selected at h
  split at h
  · assumption
  · cases h

theorem runSequencer_selected {s : State} {i : Instr} (h : s.selected = some i) : s.runSequencer = exec i s := by
  simp [State.runSequencer, busy_of_selected h, decodeSelector_of_selected h]

theorem runSequencer_not_busy {s : State} (h : s.busy = false) : s.runSequencer = .next s := by
  simp [State.runSequencer, h]

/-- With the invariant a running block selects a step (spec/44_transfer_sequencer.md R196), and the step keeps the
invariant. -/
theorem selected_keeps {s : State} (h : Inv s) (hbusy : s.busy = true) :
    ∃ i, s.selected = some i ∧ Answers (exec i s) Inv := by
  obtain ⟨hdone, haborted⟩ := h.busyRuns hbusy
  have hawaits := h.awaitSeq
  cases hseq : s.seq <;> cases hawait : s.await
  case start.false =>
    have hsel := (selected_sHelloTx s).mpr ⟨hbusy, hseq, hawait⟩
    exact ⟨_, hsel, sHelloTx_keeps h hsel⟩
  case start.true =>
    have hsel := (selected_sHelloAck s).mpr ⟨hbusy, hseq, hawait⟩
    exact ⟨_, hsel, sHelloAck_keeps h hsel⟩
  case helloSent.false =>
    have hsel := (selected_sOpenTxFirst s).mpr ⟨hbusy, hseq, hawait⟩
    exact ⟨_, hsel, sOpenTxFirst_keeps h hsel⟩
  case helloSent.true =>
    have hsel := (selected_sOpenAckFirst s).mpr ⟨hbusy, hseq, hawait⟩
    exact ⟨_, hsel, sOpenAckFirst_keeps h hsel⟩
  case imageOpen.false =>
    have hsel := (selected_sTrailerTx s).mpr ⟨hbusy, hseq, hawait⟩
    exact ⟨_, hsel, sTrailerTx_keeps h hsel⟩
  case imageStreaming.false =>
    have hsel := (selected_sChunk s).mpr ⟨hbusy, hseq, hawait⟩
    exact ⟨_, hsel, sChunk_keeps h hsel⟩
  case imageStreaming.true =>
    have hsel := (selected_sDataAck s).mpr ⟨hbusy, hseq, hawait⟩
    exact ⟨_, hsel, sDataAck_keeps h hsel⟩
  case imageAcked.false =>
    cases hlast : s.last with
    | true =>
      have hsel := (selected_sCloseTx s).mpr ⟨hbusy, hseq, hawait, hlast⟩
      exact ⟨_, hsel, sCloseTx_keeps h hsel⟩
    | false =>
      have hsel := (selected_sOpenTxNext s).mpr ⟨hbusy, hseq, hawait, hlast⟩
      exact ⟨_, hsel, sOpenTxNext_keeps h hsel⟩
  case imageAcked.true =>
    have hsel := (selected_sOpenAckNext s).mpr ⟨hbusy, hseq, hawait⟩
    exact ⟨_, hsel, sOpenAckNext_keeps h hsel⟩
  case closing.false =>
    have hsel := (selected_sFinish s).mpr ⟨hbusy, hseq, hawait⟩
    exact ⟨_, hsel, sFinish_keeps h hsel⟩
  case done.false | done.true => exact absurd hseq hdone
  case aborted.false | aborted.true => exact absurd hseq haborted
  case imageOpen.true | closing.true => simp [hseq, hawait] at hawaits

theorem runRequest_keeps {s : State} (h : Inv s) (w : RequestWord) : Answers (s.runRequest w) Inv := by
  unfold State.runRequest
  split
  · rename_i i hi
    exact (request_effect (isRequest_of_decodeRequest hi) s).mono fun _ e => e.inv h
  · exact answers_next ((refuse_effect s _).inv h)

theorem turn_keeps {s : State} (h : Inv s) : Answers s.turn Inv := by
  unfold State.turn
  split
  · exact runRequest_keeps h _
  · cases hbusy : s.busy with
    | true =>
      obtain ⟨i, hsel, hkeeps⟩ := selected_keeps h hbusy
      rw [runSequencer_selected hsel]
      exact hkeeps
    | false =>
      rw [runSequencer_not_busy hbusy]
      exact answers_next h

/-- The state right after reset, in any surroundings, meets every clause of the invariant. -/
theorem AfterReset.inv {s : State} (h : AfterReset s) : Inv s := by
  rw [AfterReset] at h
  rw [h]
  constructor <;> simp

theorem applyReset_afterReset (s : State) (rest : List HostInput) : AfterReset { s.applyReset with host := rest } := rfl

/-- A step from a state with the invariant answers a next state, and it has the invariant. -/
theorem step_keeps {s : State} (h : Inv s) : Answers (step s) Inv := by
  cases hr : s.resetNow with
  | true =>
    rw [step_reset hr]
    exact answers_next (applyReset_afterReset s _).inv
  | false =>
    rw [step_turn hr]
    exact turn_keeps h.arrive

theorem core_run_succ (M : Host.Core) {s t : M.State} (h : M.step s = .next t) (k : Nat) :
    M.run (k + 1) s = M.run k t := by
  simp only [Host.Core.run, h]

theorem runFor_succ {s t : State} (h : step s = .next t) (k : Nat) : runFor (k + 1) s = runFor k t :=
  core_run_succ core h k

/-- Any number of steps from a state with the invariant. -/
theorem runFor_keeps (k : Nat) {s : State} (h : Inv s) : Answers (runFor k s) Inv := by
  induction k generalizing s with
  | zero => exact answers_next h
  | succ k ih =>
    obtain ⟨t, ht, hInv⟩ := step_keeps h
    rw [runFor_succ ht]
    exact ih hInv

/-! ### The flags of `ACKFLAGS` across a step (spec/10_state.md R34) -/

section Flags
variable {s t : State}

theorem RequestEffect.flagsKept (e : RequestEffect s t) : FlagsKept s t := by
  cases e with
  | answered _ _ flags => exact flags
  | started _ _ eq => exact .of_eq (by rw [eq]; rfl)
  | turnedAway _ _ eq => exact .of_eq (by rw [eq]; rfl)
  | configured _ eq => exact .of_eq (by rw [eq]; rfl)

/-- A sending step does not reach the flags. -/
theorem transmit_flagsKept {before : State} {b : List Byte} {after : State → State}
    (h : s.transmit before b after = .next t) (hbefore : before.ackflags = s.ackflags)
    (hafter : ∀ u, (after u).ackflags = u.ackflags) : FlagsKept s t := by
  rcases transmit_next h with ⟨-, rfl⟩ | ⟨rest, -, rfl⟩ | ⟨rest, -, rfl⟩
  · exact .of_eq rfl
  · exact .of_eq ((hafter _).trans hbefore)
  · exact .of_eq hbefore

theorem sendFramed_flagsKept {c : List Byte} {after : State → State} (h : s.sendFramed c after = .next t)
    (hafter : ∀ u, (after u).ackflags = u.ackflags) : FlagsKept s t :=
  transmit_flagsKept h rfl hafter

theorem sendUnframed_flagsKept {c : List Byte} {after : State → State} (h : s.sendUnframed c after = .next t)
    (hafter : ∀ u, (after u).ackflags = u.ackflags) : FlagsKept s t :=
  transmit_flagsKept h rfl hafter

/-- An awaiting step reaches the flags by its one validation. -/
theorem awaitAck_flagsKept {k : Byte} {after : State → State} (h : s.awaitAck k after = .next t)
    (hafter : ∀ u, (after u).ackflags = u.ackflags) : FlagsKept s t := by
  have hburst {r : List Byte} {u : State} (hu : s.rxRead = some (.burst r, u)) (v : AckKind × Byte) :
      FlagsKept s (u.record v k) := by
    obtain ⟨d, rest, -, -, rfl⟩ := rxRead_burst hu
    exact record_flagsKept s v k
  rcases awaitAck_next h with ⟨-, rfl⟩ | ⟨u, hu, rfl⟩ | ⟨r, u, hu, -, -, rfl⟩ | ⟨r, u, hu, -, rfl⟩
  · exact .of_eq rfl
  · obtain ⟨rest, -, rfl⟩ := rxRead_error hu
    exact .of_eq rfl
  · exact hburst hu (validate r k)
  · rw [FlagsKept, hafter]
    exact hburst hu (validate r k)

theorem openTx_flagsKept {j : Pos} (h : s.openTx j = .next t) : FlagsKept s t := by
  unfold State.openTx at h
  split at h
  · cases h
  · exact sendFramed_flagsKept h fun _ => rfl

theorem openAckTo_flagsKept {j : Pos} (h : s.openAckTo j = .next t) : FlagsKept s t :=
  awaitAck_flagsKept h fun _ => rfl

theorem sOpenTxNext_flagsKept (h : execSOpenTxNext s = .next t) : FlagsKept s t := by
  obtain ⟨-, h⟩ := whenSelected_next h
  split at h
  · cases h
  · exact openTx_flagsKept h

theorem sOpenAckNext_flagsKept (h : execSOpenAckNext s = .next t) : FlagsKept s t := by
  obtain ⟨-, h⟩ := whenSelected_next h
  split at h
  · cases h
  · exact openAckTo_flagsKept h

theorem sTrailerTx_flagsKept (h : execSTrailerTx s = .next t) : FlagsKept s t := by
  obtain ⟨-, h⟩ := whenSelected_next h
  split at h
  · cases h
  · exact sendUnframed_flagsKept h fun _ => rfl

theorem sChunk_flagsKept (h : execSChunk s = .next t) : FlagsKept s t := by
  obtain ⟨-, h⟩ := whenSelected_next h
  simp only at h
  split at h
  · cases h
  split at h
  · exact transmit_flagsKept h rfl fun _ => rfl
  split at h
  · cases h
  · exact transmit_flagsKept h rfl fun _ => rfl

theorem sFinish_flagsKept (h : execSFinish s = .next t) : FlagsKept s t := by
  obtain ⟨-, h⟩ := whenSelected_next h
  cases h
  exact .of_eq rfl

/-- No instruction clears a flag, whatever the state. -/
theorem exec_flagsKept {i : Instr} (h : exec i s = .next t) : FlagsKept s t := by
  cases hreq : isRequest i with
  | true => exact ((request_effect hreq s).of_next h).flagsKept
  | false =>
    cases i with
    | sHelloTx => exact sendFramed_flagsKept (whenSelected_next h).2 fun _ => rfl
    | sHelloAck => exact awaitAck_flagsKept (whenSelected_next h).2 fun _ => rfl
    | sOpenTxFirst => exact openTx_flagsKept (whenSelected_next h).2
    | sOpenTxNext => exact sOpenTxNext_flagsKept h
    | sOpenAckFirst => exact openAckTo_flagsKept (whenSelected_next h).2
    | sOpenAckNext => exact sOpenAckNext_flagsKept h
    | sTrailerTx => exact sTrailerTx_flagsKept h
    | sChunk => exact sChunk_flagsKept h
    | sDataAck => exact awaitAck_flagsKept (whenSelected_next h).2 fun _ => rfl
    | sCloseTx => exact sendFramed_flagsKept (whenSelected_next h).2 fun _ => rfl
    | sFinish => exact sFinish_flagsKept h
    | _ => cases hreq

/-- No step but a reset clears a flag. -/
theorem step_flagsKept (hr : s.resetNow = false) (h : step s = .next t) : FlagsKept s t := by
  have harrive : s.arrive.ackflags = s.ackflags := by rw [arrive_frame]
  have hexec {i : Instr} (hi : exec i s.arrive = .next t) : FlagsKept s t := by
    rw [FlagsKept, ← harrive]
    exact exec_flagsKept hi
  rcases step_cases h with ⟨hreset, -⟩ | ⟨-, w, i, -, -, hi⟩ | ⟨-, w, e, -, -, rfl⟩ | ⟨-, -, -, i, -, hi⟩ | ⟨-, -, -, rfl⟩
  · exact absurd (hr.symm.trans hreset) (by decide)
  · exact hexec hi
  · exact .of_eq harrive
  · exact hexec hi
  · exact .of_eq harrive

end Flags

theorem resetNow_of_host {s : State} {rest : List HostInput} (h : s.host = .reset :: rest) : s.resetNow = true := by
  simp [State.resetNow, h]

/-- A step at which the host resets answers the reset state with the surroundings kept. -/
theorem step_of_host_reset {s : State} {rest : List HostInput} (h : s.host = .reset :: rest) :
    step s = .next { s.applyReset with host := rest } := by
  rw [step_reset (resetNow_of_host h), h, List.drop_one, List.tail_cons]

end Sys2Proof.Machine

section
open Sys2Proof Sys2Proof.Machine

/-! ### The obligations -/

/-- Settles O51, by the invariant's step lemma `step_keeps`. -/
theorem stepKeepsTheInvariant : Obligations.StepKeepsTheInvariant :=
  fun _ _ h hstep => (step_keeps h).of_next hstep

/-- Settles O52, by the same step lemma: the next state exists. -/
theorem stepAnswersANextState : Obligations.StepAnswersANextState := by
  intro s h
  obtain ⟨t, ht, -⟩ := step_keeps h
  exact ⟨t, ht⟩

/-- Settles O53, by induction on the number of steps. -/
theorem reachableStatesKeepTheInvariant : Obligations.ReachableStatesKeepTheInvariant :=
  fun k _ h => runFor_keeps k h.inv

/-- Settles O33: only a validation writes the flags, and it sets one at most. -/
theorem ackFlagsAreSticky : Obligations.AckFlagsAreSticky :=
  fun _ _ hr h => step_flagsKept hr h

/-- Settles O9: the reset step writes every register. -/
theorem resetFromAnyState : Obligations.ResetFromAnyState := by
  intro s rest h
  exact ⟨_, step_of_host_reset h, rfl, rfl, rfl, rfl, rfl, rfl, rfl, rfl, rfl, rfl, rfl, rfl, rfl, rfl, rfl, rfl, rfl,
    rfl, rfl, rfl, rfl, rfl⟩

/-- Settles O50, from the reset step and the invariant right after it. -/
theorem resetHasTheInvariant : Obligations.ResetHasTheInvariant := by
  refine ⟨AfterReset.inv rfl, fun _ => AfterReset.inv, fun s rest h => ?_⟩
  exact ⟨_, step_of_host_reset h, applyReset_afterReset s rest, rfl, rfl, rfl, rfl, rfl⟩

end

/-! What a step may touch outside the registers: the parameters and the images stay (spec/20_memory.md R53, R60), the
history and what the transport holds move by one call at most (R56, R57, R65). Each instruction is characterised once by
`Outward`; what the wire may be follows from the log alone. -/
namespace Sys2Proof.Machine

/-! ### The image source (spec/20_memory.md R60) -/

/-- A read within what the host listed. -/
theorem imgRead_of_le {s : State} {p : Pos} {off n : Nat} (h : off + n ≤ s.images[p].length) :
    s.imgRead p off n = (s.images[p].drop off).take n := by
  have hlen : ((s.images[p].drop off).take n).length = n := by
    simp only [List.length_take, List.length_drop]
    omega
  simp only [State.imgRead, hlen, Nat.sub_self, List.range_zero, List.map_nil, List.append_nil]

/-- The first bytes of a read are a shorter read at the same offset. -/
theorem imgRead_take {s : State} {p : Pos} {off n m : Nat} (h : m ≤ n) :
    (s.imgRead p off n).take m = s.imgRead p off m := by
  simp only [imgRead_eq_map, ← List.map_take, List.take_range, Nat.min_eq_left h]

/-! ### What the log says of the wire (spec/20_memory.md R57, R65) -/

/-- What one write of `b` with the transport's result puts on the wire: all of `b`, or the beginning of it. -/
def Carried (b : List Byte) : TxResult → List Byte → Prop
  | .ok, p => p = b
  | .failed, p => p <+: b

/-- Either result leaves something possible on the wire. -/
theorem exists_carried (b : List Byte) (r : TxResult) : ∃ p, Carried b r p := by
  cases r with
  | ok => exact ⟨b, rfl⟩
  | failed => exact ⟨[], List.nil_prefix⟩

theorem isWire_cons {b : List Byte} {r : TxResult} {log : List (List Byte × TxResult)} {w : List Byte} :
    IsWire ((b, r) :: log) w ↔ ∃ p, Carried b r p ∧ ∃ v, w = p ++ v ∧ IsWire log v := by
  cases r with
  | ok => simp only [IsWire, Carried, exists_eq_left]
  | failed => simp only [IsWire, Carried, exists_and_left]

/-- The newest entry of the log stands at the end of the wire. -/
theorem isWire_concat {b : List Byte} {r : TxResult} {log : List (List Byte × TxResult)} {w : List Byte} :
    IsWire (log ++ [(b, r)]) w ↔ ∃ u, IsWire log u ∧ ∃ p, Carried b r p ∧ w = u ++ p := by
  induction log generalizing w with
  | nil => simp [isWire_cons, IsWire]
  | cons e log ih =>
    obtain ⟨b', r'⟩ := e
    simp only [List.cons_append, isWire_cons, ih]
    constructor
    · rintro ⟨q, hq, _, rfl, u, hu, p, hp, rfl⟩
      exact ⟨q ++ u, ⟨q, hq, u, rfl, hu⟩, p, hp, (List.append_assoc q u p).symm⟩
    · rintro ⟨_, ⟨q, hq, u, rfl, hu⟩, p, hp, rfl⟩
      exact ⟨q, hq, u ++ p, List.append_assoc q u p, u, hu, p, hp, rfl⟩

/-- Where no write has failed the wire is the concatenation of the payloads. -/
theorem isWire_of_all_ok {log : List (List Byte × TxResult)} (h : ∀ e ∈ log, e.2 = .ok) (w : List Byte) :
    IsWire log w ↔ w = (log.map (·.1)).flatten := by
  induction log generalizing w with
  | nil => rfl
  | cons e log ih =>
    obtain ⟨b, r⟩ := e
    obtain ⟨rfl, hlog⟩ := List.forall_mem_cons.mp h
    simp only [isWire_cons, Carried, ih hlog, exists_eq_left, exists_eq_right, List.map_cons, List.flatten_cons]

/-- A log that has grown by one entry at most. -/
def GrowsByOne (log log' : List (List Byte × TxResult)) : Prop := log' = log ∨ ∃ b r, log' = log ++ [(b, r)]

section Grown
variable {log log' : List (List Byte × TxResult)} (h : GrowsByOne log log')
include h

theorem isWire_extends {w : List Byte} (hw : IsWire log w) : ∃ v, IsWire log' v ∧ w <+: v := by
  rcases h with rfl | ⟨b, r, rfl⟩
  · exact ⟨w, hw, List.prefix_rfl⟩
  · obtain ⟨p, hp⟩ := exists_carried b r
    exact ⟨w ++ p, isWire_concat.mpr ⟨w, hw, p, hp, rfl⟩, List.prefix_append w p⟩

theorem isWire_extended {v : List Byte} (hv : IsWire log' v) : ∃ w, IsWire log w ∧ w <+: v := by
  rcases h with rfl | ⟨b, r, rfl⟩
  · exact ⟨v, hv, List.prefix_rfl⟩
  · obtain ⟨w, hw, p, -, rfl⟩ := isWire_concat.mp hv
    exact ⟨w, hw, List.prefix_append w p⟩

end Grown

/-! ### What an instruction leaves as it was -/

/-- `t` has the parameters, the images, the history and the transport of `s`; every register may differ. -/
def SameOutside (s t : State) : Prop :=
  t = { t with cfg := s.cfg, history := s.history, rx := s.rx, tx := s.tx, images := s.images }

namespace SameOutside
variable {s t u : State} (h : SameOutside s t)
include h

theorem cfg : t.cfg = s.cfg := by rw [h]
theorem images : t.images = s.images := by rw [h]
theorem history : t.history = s.history := by rw [h]
theorem tx : t.tx = s.tx := by rw [h]

theorem trans (htu : SameOutside t u) : SameOutside s u := by
  unfold SameOutside at *
  rw [h] at htu
  exact htu

/-- The same write on both sides. -/
theorem write (rest : List TxResult) (e : Event) :
    SameOutside { s with tx := rest, history := s.history ++ [e] } { t with tx := rest, history := t.history ++ [e] } := by
  unfold SameOutside
  rw [h]

end SameOutside

/-- What a write that happens in `s` carries: on the idle block the bytes of `FRM` (`TX.SEND`), in a session what the
selected step sends. -/
structure Carries (s : State) (b : List Byte) : Prop where
  ofFrm : s.busy = false → b = s.frm
  ofStep : s.busy = true → Inv s → nextPayload s = some b

theorem Carries.of_busy {s : State} {b : List Byte} (hbusy : s.busy = true) (h : Inv s → nextPayload s = some b) :
    Carries s b :=
  ⟨fun hidle => absurd (hbusy.symm.trans hidle) (by decide), fun _ => h⟩

/-- What one instruction does outside the registers: nothing, one write that returned, or one read that returned. -/
inductive Outward (s t : State) : Prop where
  | silent (same : SameOutside s t)
  | sent (b : List Byte) (r : TxResult) (rest : List TxResult) (taken : s.tx = r :: rest) (carries : Carries s b)
      (same : SameOutside { s with tx := rest, history := s.history ++ [.tx b r] } t)
  | received (r : RxResult) (rest : List RxResult)
      (same : SameOutside { s with rx := rest, history := s.history ++ [.rx r] } t)

/-! ### Requests -/

section Requests
variable {s t u : State}

theorem whenIdle_sameOutside {body : Result} (h : s.whenIdle body = .next t)
    (hbody : body = .next t → SameOutside s t) : SameOutside s t := by
  rcases whenIdle_next h with ⟨-, h⟩ | ⟨-, rfl⟩
  · exact hbody h
  · rfl

/-- An operation without a check of its own. -/
theorem performs_sameOutside (h : s.whenIdle (.next u) = .next t) (hu : SameOutside s u) : SameOutside s t :=
  whenIdle_sameOutside h fun e => by cases e; exact hu

/-- An operation with one check of its own. -/
theorem checks_sameOutside {c : Prop} [Decidable c] {v : State}
    (h : s.whenIdle (if c then .next u else .next v) = .next t) (hu : SameOutside s u) (hv : SameOutside s v) :
    SameOutside s t := by
  refine whenIdle_sameOutside h fun hbody => ?_
  split at hbody <;> cases hbody
  · exact hu
  · exact hv

theorem takeDecoded_sameOutside (s : State) (r : Except OpErr (List Byte)) : SameOutside s (s.takeDecoded r) := by
  unfold State.takeDecoded
  split
  · rfl
  · split <;> rfl

theorem regWr_sameOutside {r v : Word32} (h : execRegWr r v s = .next t) : SameOutside s t := by
  refine whenIdle_sameOutside h fun hbody => ?_
  split at hbody <;> cases hbody
  · rfl
  · obtain ⟨g, -, hg⟩ := Option.bind_eq_some_iff.mp ‹_›
    rw [writeReg_frame hg]
    rfl

theorem regRd_sameOutside {r : Word32} (h : execRegRd r s = .next t) : SameOutside s t := by
  unfold execRegRd at h
  split at h <;> cases h <;> rfl

theorem bufRd_sameOutside {space index : Word32} (h : execBufRd space index s = .next t) : SameOutside s t := by
  unfold execBufRd at h
  split at h <;> cases h <;> rfl

/-- `TX.SEND` hands `FRM` to the transport once (spec/41_frame_codec.md R139). -/
theorem txSend_outward (h : execTxSend s = .next t) : Outward s t := by
  rcases whenIdle_next h with ⟨hidle, h⟩ | ⟨-, rfl⟩
  · obtain ⟨hbusy, -⟩ := (isIdle_iff s).mp hidle
    have carries : Carries s s.frm := ⟨fun _ => rfl, fun hb => absurd (hbusy.symm.trans hb) (by decide)⟩
    split at h <;> cases h
    · exact .silent rfl
    all_goals
      obtain ⟨rest, htx, rfl⟩ := txWrite_some ‹_›
      exact .sent s.frm _ rest htx carries rfl
  · exact .silent rfl

/-- `ACK.RECV` reads once (spec/43_response_validator.md R183). -/
theorem ackRecv_outward (h : execAckRecv s = .next t) : Outward s t := by
  rcases whenIdle_next h with ⟨-, h⟩ | ⟨-, rfl⟩
  · split at h <;> cases h
    · exact .silent rfl
    · obtain ⟨d, rest, -, -, rfl⟩ := rxRead_burst ‹_›
      exact .received _ _ rfl
    · obtain ⟨rest, -, rfl⟩ := rxRead_error ‹_›
      exact .received _ _ rfl
  · exact .silent rfl

/-- Of the requests only `TX.SEND` and `ACK.RECV` reach the transport. -/
theorem request_outward {i : Instr} (hi : isRequest i = true) (h : exec i s = .next t) : Outward s t := by
  cases i with
  | txSend => exact txSend_outward h
  | ackRecv => exact ackRecv_outward h
  | crcInit | crcLoad | crcStep | crcFinal | frmEsc | frmEnc | frmRaw | frmClr | cmdClr | cmdHello | cmdClose | ackClr
  | ackCheck => exact .silent (performs_sameOutside h rfl)
  | frmUnesc | frmDec => exact .silent (performs_sameOutside h (takeDecoded_sameOutside s _))
  | crcBuf | frmPut | cmdPut | cmdPut32 | cmdInc2 | cmdCrcpatch | ackPut | seqRun =>
    exact .silent (checks_sameOutside h rfl rfl)
  | cmdLoad | cmdOpen | cmdTrailer =>
    refine .silent (whenIdle_sameOutside h fun hbody => ?_)
    split at hbody <;> cases hbody <;> rfl
  | regWr => exact .silent (regWr_sameOutside h)
  | regRd => exact .silent (regRd_sameOutside h)
  | bufRd => exact .silent (bufRd_sameOutside h)
  | _ => cases hi

end Requests

/-! ### What the selected step sends -/

section Payloads
variable {s : State}

theorem openBytes_of_some {p : Pos} {c : List Byte} (h : openCmd s.cfg p (s.sizeLo p) = some c) : openBytes s p = c := by
  rw [openBytes, h, Option.getD_some]

theorem trailerBytes_of_some {p : Pos} {c : List Byte} (h : trailerCmd s.cfg p (s.sizeLo p) = some c) :
    trailerBytes s p = c := by
  rw [trailerBytes, h, Option.getD_some]

theorem nextPayload_sHelloTx (h : s.selected = some .sHelloTx) :
    nextPayload s = some (encodeFrame (helloCmd s.cfg s.gen2)) := by
  obtain ⟨-, hseq, hawait⟩ := (selected_sHelloTx s).mp h
  simp [nextPayload, hseq, hawait, helloFrame]

theorem nextPayload_sOpenTxFirst (h : s.selected = some .sOpenTxFirst) :
    nextPayload s = some (encodeFrame (openBytes s 0)) := by
  obtain ⟨-, hseq, hawait⟩ := (selected_sOpenTxFirst s).mp h
  simp [nextPayload, hseq, hawait]

theorem nextPayload_sOpenTxNext (h : s.selected = some .sOpenTxNext) {j : Pos} (hj : s.nextImg = some j) :
    nextPayload s = some (encodeFrame (openBytes s j)) := by
  obtain ⟨-, hseq, hawait, hlast⟩ := (selected_sOpenTxNext s).mp h
  simp [nextPayload, hseq, hawait, hlast, hj]

theorem nextPayload_sTrailerTx (h : s.selected = some .sTrailerTx) : nextPayload s = some (trailerBytes s s.img) := by
  obtain ⟨-, hseq, hawait⟩ := (selected_sTrailerTx s).mp h
  simp [nextPayload, hseq, hawait]

theorem nextPayload_sCloseTx (h : s.selected = some .sCloseTx) :
    nextPayload s = some (encodeFrame (closeCmd s.cfg)) := by
  obtain ⟨-, hseq, hawait, hlast⟩ := (selected_sCloseTx s).mp h
  simp [nextPayload, hseq, hawait, hlast]

theorem nextPayload_sChunk (h : s.selected = some .sChunk) :
    nextPayload s = (dataEvents s s.img)[s.off.toNat / chunk]? := by
  obtain ⟨-, hseq, hawait⟩ := (selected_sChunk s).mp h
  simp [nextPayload, hseq, hawait]

@[simp] theorem chunkEvents_length (s : State) (p : Pos) (k : Nat) : (chunkEvents s p k).length = k := by
  simp [chunkEvents]

/-- A data event before the final one is a whole chunk (spec/44_transfer_sequencer.md R202). -/
theorem dataEvents_full {p : Pos} {k : Nat} (h : k < fullChunks s p) :
    (dataEvents s p)[k]? = some (s.imgRead p (chunk * k) chunk) := by
  rw [dataEvents, List.getElem?_append_left (by simpa using h)]
  simp [chunkEvents, h]

theorem dataEvents_final (s : State) (p : Pos) : (dataEvents s p)[fullChunks s p]? = some (finalEvent s p) := by
  rw [dataEvents, List.getElem?_append_right (by simp)]
  simp

/-- In a session `OFF` counts whole chunks and lies within the image, whose size is its low word. -/
theorem Inv.off_whole {s : State} (h : Inv s) (hsel : s.selected = some .sChunk) :
    chunk * (s.off.toNat / chunk) = s.off.toNat ∧ s.off.toNat ≤ (s.sizeLo s.img).toNat := by
  obtain ⟨hbusy, hseq, hawait⟩ := (selected_sChunk s).mp hsel
  rw [sizeLo_toNat (h.configRuns hbusy) (h.imgBelow hbusy)]
  exact ⟨Nat.mul_div_cancel' (Nat.dvd_of_mod_eq_zero (h.offWhole hseq hawait)), h.offBelow hseq⟩

/-- Where a whole chunk is left, it is the data event that `OFF` counts up to. -/
theorem nextPayload_fullChunk (h : Inv s) (hsel : s.selected = some .sChunk) (hfull : s.chunkLen = chunk) :
    nextPayload s = some (s.imgRead s.img s.off.toNat chunk) := by
  obtain ⟨hwhole, hle⟩ := h.off_whole hsel
  have hlt : s.off.toNat / chunk < fullChunks s s.img := by
    simp only [State.chunkLen, fullChunks, chunk] at *
    omega
  rw [nextPayload_sChunk hsel, dataEvents_full hlt, hwhole]

/-- Where less is left, it is the final data event: what is left, without the first image's last 8 bytes. -/
theorem nextPayload_finalChunk (h : Inv s) (hsel : s.selected = some .sChunk) (hpart : s.chunkLen ≠ chunk) :
    nextPayload s = some ((s.imgRead s.img s.off.toNat s.chunkLen).take
      (if s.img = 0 then s.chunkLen - trailerAdj else s.chunkLen)) := by
  obtain ⟨hwhole, hle⟩ := h.off_whole hsel
  have hlast : s.off.toNat / chunk = fullChunks s s.img := by
    simp only [State.chunkLen, fullChunks, chunk] at *
    omega
  have hrest : s.chunkLen = (s.sizeLo s.img).toNat % chunk := by
    simp only [State.chunkLen, chunk] at *
    omega
  have hlen : (if s.img = 0 then s.chunkLen - trailerAdj else s.chunkLen) =
      s.chunkLen - if s.img = 0 then trailerAdj else 0 := by
    split <;> rfl
  rw [nextPayload_sChunk hsel, hlast, dataEvents_final, finalEvent, ← hlast, hwhole, ← hrest, hlen,
    imgRead_take (Nat.sub_le _ _)]

end Payloads

/-! ### The sequencer's steps -/

section Steps
variable {s t : State}

theorem transmit_outward {before : State} {b : List Byte} {after : State → State}
    (h : s.transmit before b after = .next t) (hbefore : SameOutside s before)
    (hafter : ∀ u, SameOutside u (after u)) (carries : Carries s b) : Outward s t := by
  rcases transmit_next h with ⟨-, rfl⟩ | ⟨rest, htx, rfl⟩ | ⟨rest, htx, rfl⟩
  · exact .silent rfl
  · exact .sent b .ok rest (hbefore.tx ▸ htx) carries ((hbefore.write rest _).trans (hafter _))
  · exact .sent b .failed rest (hbefore.tx ▸ htx) carries ((hbefore.write rest _).trans rfl)

theorem sendFramed_outward {c : List Byte} {after : State → State} (h : s.sendFramed c after = .next t)
    (hafter : ∀ u, SameOutside u (after u)) (carries : Carries s (encodeFrame c)) : Outward s t :=
  transmit_outward h rfl hafter carries

theorem sendUnframed_outward {c : List Byte} {after : State → State} (h : s.sendUnframed c after = .next t)
    (hafter : ∀ u, SameOutside u (after u)) (carries : Carries s c) : Outward s t :=
  transmit_outward h rfl hafter carries

theorem awaitAck_outward {k : Byte} {after : State → State} (h : s.awaitAck k after = .next t)
    (hafter : ∀ u, SameOutside u (after u)) : Outward s t := by
  rcases awaitAck_next h with ⟨-, rfl⟩ | ⟨u, hu, rfl⟩ | ⟨r, u, hu, -, -, rfl⟩ | ⟨r, u, hu, -, rfl⟩
  · exact .silent rfl
  · obtain ⟨rest, -, rfl⟩ := rxRead_error hu
    exact .received .error rest rfl
  · obtain ⟨d, rest, -, -, rfl⟩ := rxRead_burst hu
    exact .received (.burst r) _ rfl
  · obtain ⟨d, rest, -, -, rfl⟩ := rxRead_burst hu
    exact .received (.burst r) _ (hafter _)

theorem openTx_outward {j : Pos} (h : s.openTx j = .next t) (hbusy : s.busy = true)
    (hnext : nextPayload s = some (encodeFrame (openBytes s j))) : Outward s t := by
  unfold State.openTx at h
  split at h
  · cases h
  · rw [openBytes_of_some ‹_›] at hnext
    exact sendFramed_outward h (fun _ => rfl) (.of_busy hbusy fun _ => hnext)

theorem openAckTo_outward {j : Pos} (h : s.openAckTo j = .next t) : Outward s t :=
  awaitAck_outward h fun _ => rfl

theorem sHelloTx_outward (h : execSHelloTx s = .next t) : Outward s t := by
  obtain ⟨hsel, h⟩ := whenSelected_next h
  exact sendFramed_outward h (fun _ => rfl) (.of_busy (busy_of_selected hsel) fun _ => nextPayload_sHelloTx hsel)

theorem sOpenTxFirst_outward (h : execSOpenTxFirst s = .next t) : Outward s t := by
  obtain ⟨hsel, h⟩ := whenSelected_next h
  exact openTx_outward h (busy_of_selected hsel) (nextPayload_sOpenTxFirst hsel)

theorem sOpenTxNext_outward (h : execSOpenTxNext s = .next t) : Outward s t := by
  obtain ⟨hsel, h⟩ := whenSelected_next h
  split at h
  · cases h
  · exact openTx_outward h (busy_of_selected hsel) (nextPayload_sOpenTxNext hsel ‹_›)

theorem sOpenAckNext_outward (h : execSOpenAckNext s = .next t) : Outward s t := by
  obtain ⟨-, h⟩ := whenSelected_next h
  split at h
  · cases h
  · exact openAckTo_outward h

theorem sTrailerTx_outward (h : execSTrailerTx s = .next t) : Outward s t := by
  obtain ⟨hsel, h⟩ := whenSelected_next h
  split at h
  · cases h
  · have hnext := nextPayload_sTrailerTx hsel
    rw [trailerBytes_of_some ‹_›] at hnext
    exact sendUnframed_outward h (fun _ => rfl) (.of_busy (busy_of_selected hsel) fun _ => hnext)

theorem sChunk_outward (h : execSChunk s = .next t) : Outward s t := by
  obtain ⟨hsel, h⟩ := whenSelected_next h
  have hbusy := busy_of_selected hsel
  simp only at h
  split at h
  · cases h
  split at h
  · rename_i hfull
    rw [hfull] at h
    exact transmit_outward h rfl (fun _ => rfl) (.of_busy hbusy fun hInv => nextPayload_fullChunk hInv hsel hfull)
  split at h
  · cases h
  · rename_i hpart _
    exact transmit_outward h rfl (fun _ => rfl) (.of_busy hbusy fun hInv => nextPayload_finalChunk hInv hsel hpart)

theorem sCloseTx_outward (h : execSCloseTx s = .next t) : Outward s t := by
  obtain ⟨hsel, h⟩ := whenSelected_next h
  exact sendFramed_outward h (fun _ => rfl) (.of_busy (busy_of_selected hsel) fun _ => nextPayload_sCloseTx hsel)

theorem sFinish_outward (h : execSFinish s = .next t) : Outward s t := by
  obtain ⟨-, h⟩ := whenSelected_next h
  cases h
  exact .silent rfl

/-- Every instruction, in every state. -/
theorem exec_outward {i : Instr} (h : exec i s = .next t) : Outward s t := by
  cases hreq : isRequest i with
  | true => exact request_outward hreq h
  | false =>
    cases i with
    | sHelloTx => exact sHelloTx_outward h
    | sHelloAck => exact awaitAck_outward (whenSelected_next h).2 fun _ => rfl
    | sOpenTxFirst => exact sOpenTxFirst_outward h
    | sOpenTxNext => exact sOpenTxNext_outward h
    | sOpenAckFirst => exact openAckTo_outward (whenSelected_next h).2
    | sOpenAckNext => exact sOpenAckNext_outward h
    | sTrailerTx => exact sTrailerTx_outward h
    | sChunk => exact sChunk_outward h
    | sDataAck => exact awaitAck_outward (whenSelected_next h).2 fun _ => rfl
    | sCloseTx => exact sCloseTx_outward h
    | sFinish => exact sFinish_outward h
    | _ => cases hreq

theorem arrive_sameOutside (s : State) : SameOutside s s.arrive := by
  rw [arrive_frame]
  rfl

@[simp] theorem arrive_nextPayload (s : State) : nextPayload s.arrive = nextPayload s := by
  rw [arrive_frame]
  rfl

/-- What the host presents at the port changes nothing that a transport call carries. -/
theorem Carries.of_arrive {b : List Byte} (h : Carries s.arrive b) : Carries s b := by
  have hfrm : s.arrive.frm = s.frm := by rw [arrive_frame]
  exact ⟨fun hidle => (h.ofFrm ((arrive_busy s).trans hidle)).trans hfrm,
    fun hbusy hInv => (arrive_nextPayload s).symm.trans (h.ofStep ((arrive_busy s).trans hbusy) hInv.arrive)⟩

theorem Outward.of_arrive (h : Outward s.arrive t) : Outward s t := by
  cases h with
  | silent same => exact .silent ((arrive_sameOutside s).trans same)
  | sent b r rest taken carries same =>
    exact .sent b r rest ((arrive_sameOutside s).tx ▸ taken) carries.of_arrive
      (((arrive_sameOutside s).write rest _).trans same)
  | received r rest same =>
    rw [arrive_frame] at same
    exact .received r rest same

/-- Every step but a reset calls the transport once at most. -/
theorem step_outward (hr : s.resetNow = false) (h : step s = .next t) : Outward s t := by
  rcases step_cases h with ⟨hreset, -⟩ | ⟨-, w, i, -, -, hi⟩ | ⟨-, w, e, -, -, rfl⟩ | ⟨-, -, -, i, -, hi⟩ | ⟨-, -, -, rfl⟩
  · exact absurd (hr.symm.trans hreset) (by decide)
  · exact (exec_outward hi).of_arrive
  · exact .of_arrive (.silent rfl)
  · exact (exec_outward hi).of_arrive
  · exact .silent (arrive_sameOutside s)

end Steps

/-! ### What follows for the surroundings and the logs -/

section Outcomes
variable {s t : State}

theorem Outward.cfg_images (h : Outward s t) : t.cfg = s.cfg ∧ t.images = s.images := by
  cases h with
  | silent same => exact ⟨same.cfg, same.images⟩
  | sent _ _ _ _ _ same => exact ⟨same.cfg, same.images⟩
  | received _ _ same => exact ⟨same.cfg, same.images⟩

/-- The history grows by one event at most. -/
theorem Outward.history_grows (h : Outward s t) : ∃ l, l.length ≤ 1 ∧ t.history = s.history ++ l := by
  cases h with
  | silent same => exact ⟨[], Nat.zero_le 1, by rw [same.history, List.append_nil]⟩
  | sent b r _ _ _ same => exact ⟨[.tx b r], le_rfl, same.history⟩
  | received r _ same => exact ⟨[.rx r], le_rfl, same.history⟩

theorem txLog_of_history_eq (h : t.history = s.history) : txLog t = txLog s := by
  rw [txLog, txLog, h]

theorem txLog_of_history_tx {b : List Byte} {r : TxResult} (h : t.history = s.history ++ [.tx b r]) :
    txLog t = txLog s ++ [(b, r)] := by
  rw [txLog, txLog, h, List.filterMap_append]
  rfl

theorem txLog_of_history_rx {r : RxResult} (h : t.history = s.history ++ [.rx r]) : txLog t = txLog s := by
  rw [txLog, txLog, h, List.filterMap_append]
  exact List.append_nil _

/-- `TXLOG` stays, or grows by the write that returned. -/
theorem Outward.txLog_cases (h : Outward s t) :
    txLog t = txLog s ∨ ∃ b r, txLog t = txLog s ++ [(b, r)] ∧ s.tx = r :: t.tx ∧ Carries s b := by
  cases h with
  | silent same => exact .inl (txLog_of_history_eq same.history)
  | sent b r rest taken carries same =>
    have htx : t.tx = rest := same.tx
    exact .inr ⟨b, r, txLog_of_history_tx same.history, htx ▸ taken, carries⟩
  | received r rest same => exact .inl (txLog_of_history_rx same.history)

theorem Outward.txLog_grows (h : Outward s t) : GrowsByOne (txLog s) (txLog t) :=
  h.txLog_cases.imp_right fun ⟨b, r, hlog, _, _⟩ => ⟨b, r, hlog⟩

end Outcomes

end Sys2Proof.Machine

section
open Sys2Proof Sys2Proof.Machine

/-! ### The obligations -/

/-- Settles O27: reset keeps both by its definition, every other step by `step_outward`. -/
theorem romAndImagesNeverChange : Obligations.RomAndImagesNeverChange := by
  intro s t h
  cases hr : s.resetNow with
  | true =>
    cases (step_reset hr).symm.trans h
    exact ⟨rfl, rfl⟩
  | false => exact (step_outward hr h).cfg_images

/-- Settles O48: under the contract the read lies within what the host listed. -/
theorem imageReadsAreSlices : Obligations.ImageReadsAreSlices := by
  intro s p off n contract hp hle
  exact ⟨imgRead_of_le (hle.trans_eq (contract p hp).symm), imgRead_length s p off n⟩

/-- Settles O49: a step appends one write at most (`step_outward`), and a write extends the wire at its end
(`isWire_concat`). -/
theorem wireIsTheConcatenation : Obligations.WireIsTheConcatenation := by
  refine ⟨fun s => isWire_of_all_ok, fun s t hr h => ?_⟩
  have outward := step_outward hr h
  refine ⟨outward.history_grows, outward.txLog_cases.imp_right ?_, fun b hlog v => ?_, fun b hlog v => ?_,
    fun w => isWire_extends outward.txLog_grows, fun v => isWire_extended outward.txLog_grows⟩
  · rintro ⟨b, r, hlog, htx, carries⟩
    exact ⟨b, r, hlog, htx, carries.ofFrm, carries.ofStep⟩
  · simp only [hlog, isWire_concat, Carried, exists_eq_left]
  · simp only [hlog, isWire_concat, Carried, exists_and_left]

end

/-! The encodings of spec/30_encoding.md: the operation map (R81), the unassigned codes (R83), the step table (R85), the
refusals of a block that is not idle (R84), and the programs and pseudo-operations (R95, R96). What a code decodes to is
said once, a lemma per row; what a step does with a request is said once, for a presented and for a standing one. -/
namespace Sys2Proof.Machine

/-! ### The operation map (spec/30_encoding.md R81, R82) -/

/-- A row of the map is fixed by the code of the word; the operands are the word's other fields. -/
theorem requestIs_of_code {op : Byte} {f : Word32 → Word32 → Instr}
    (h : ∀ w, requestOp w = op → decodeRequest w = .ok (f (requestArg0 w) (requestArg1 w))) : RequestIs op f := by
  intro arg1 arg0
  rw [h _ (requestOp_requestWord op arg1 arg0), requestArg0_requestWord, requestArg1_requestWord]

theorem requestIs_crcInit : RequestIs 0x00 (fun _ _ => .crcInit) :=
  requestIs_of_code fun _ h => by rw [decodeRequest, h]; rfl
theorem requestIs_crcLoad : RequestIs 0x01 (fun a _ => .crcLoad (a.extractLsb' 0 16)) :=
  requestIs_of_code fun _ h => by rw [decodeRequest, h]; rfl
theorem requestIs_crcStep : RequestIs 0x02 (fun a _ => .crcStep (a.extractLsb' 0 8)) :=
  requestIs_of_code fun _ h => by rw [decodeRequest, h]; rfl
theorem requestIs_crcBuf : RequestIs 0x03 (fun a _ => .crcBuf a) :=
  requestIs_of_code fun _ h => by rw [decodeRequest, h]; rfl
theorem requestIs_crcFinal : RequestIs 0x04 (fun _ _ => .crcFinal) :=
  requestIs_of_code fun _ h => by rw [decodeRequest, h]; rfl
theorem requestIs_frmEsc : RequestIs 0x10 (fun _ _ => .frmEsc) :=
  requestIs_of_code fun _ h => by rw [decodeRequest, h]; rfl
theorem requestIs_frmEnc : RequestIs 0x11 (fun _ _ => .frmEnc) :=
  requestIs_of_code fun _ h => by rw [decodeRequest, h]; rfl
theorem requestIs_frmRaw : RequestIs 0x12 (fun _ _ => .frmRaw) :=
  requestIs_of_code fun _ h => by rw [decodeRequest, h]; rfl
theorem requestIs_frmUnesc : RequestIs 0x13 (fun _ _ => .frmUnesc) :=
  requestIs_of_code fun _ h => by rw [decodeRequest, h]; rfl
theorem requestIs_frmDec : RequestIs 0x14 (fun _ _ => .frmDec) :=
  requestIs_of_code fun _ h => by rw [decodeRequest, h]; rfl
theorem requestIs_txSend : RequestIs 0x15 (fun _ _ => .txSend) :=
  requestIs_of_code fun _ h => by rw [decodeRequest, h]; rfl
theorem requestIs_frmClr : RequestIs 0x16 (fun _ _ => .frmClr) :=
  requestIs_of_code fun _ h => by rw [decodeRequest, h]; rfl
theorem requestIs_frmPut : RequestIs 0x17 (fun a _ => .frmPut (a.extractLsb' 0 8)) :=
  requestIs_of_code fun _ h => by rw [decodeRequest, h]; rfl
theorem requestIs_cmdClr : RequestIs 0x20 (fun _ _ => .cmdClr) :=
  requestIs_of_code fun _ h => by rw [decodeRequest, h]; rfl
theorem requestIs_cmdPut : RequestIs 0x21 (fun a _ => .cmdPut (a.extractLsb' 0 8)) :=
  requestIs_of_code fun _ h => by rw [decodeRequest, h]; rfl
theorem requestIs_cmdLoad : RequestIs 0x22 (fun a _ => .cmdLoad a) :=
  requestIs_of_code fun _ h => by rw [decodeRequest, h]; rfl
theorem requestIs_cmdPut32 : RequestIs 0x23 (fun a b => .cmdPut32 a b) :=
  requestIs_of_code fun _ h => by rw [decodeRequest, h]; rfl
theorem requestIs_cmdInc2 : RequestIs 0x24 (fun a _ => .cmdInc2 a) :=
  requestIs_of_code fun _ h => by rw [decodeRequest, h]; rfl
theorem requestIs_cmdCrcpatch : RequestIs 0x25 (fun _ _ => .cmdCrcpatch) :=
  requestIs_of_code fun _ h => by rw [decodeRequest, h]; rfl
theorem requestIs_cmdHello : RequestIs 0x28 (fun a _ => .cmdHello (a.getLsbD 0)) :=
  requestIs_of_code fun _ h => by rw [decodeRequest, h]; rfl
theorem requestIs_cmdOpen : RequestIs 0x29 (fun a b => .cmdOpen a b) :=
  requestIs_of_code fun _ h => by rw [decodeRequest, h]; rfl
theorem requestIs_cmdTrailer : RequestIs 0x2A (fun a b => .cmdTrailer a b) :=
  requestIs_of_code fun _ h => by rw [decodeRequest, h]; rfl
theorem requestIs_cmdClose : RequestIs 0x2B (fun _ _ => .cmdClose) :=
  requestIs_of_code fun _ h => by rw [decodeRequest, h]; rfl
theorem requestIs_ackClr : RequestIs 0x30 (fun _ _ => .ackClr) :=
  requestIs_of_code fun _ h => by rw [decodeRequest, h]; rfl
theorem requestIs_ackPut : RequestIs 0x31 (fun a _ => .ackPut (a.extractLsb' 0 8)) :=
  requestIs_of_code fun _ h => by rw [decodeRequest, h]; rfl
theorem requestIs_ackRecv : RequestIs 0x32 (fun _ _ => .ackRecv) :=
  requestIs_of_code fun _ h => by rw [decodeRequest, h]; rfl
theorem requestIs_ackCheck : RequestIs 0x33 (fun a _ => .ackCheck (a.extractLsb' 0 8)) :=
  requestIs_of_code fun _ h => by rw [decodeRequest, h]; rfl
theorem requestIs_seqRun : RequestIs 0x40 (fun _ _ => .seqRun) :=
  requestIs_of_code fun _ h => by rw [decodeRequest, h]; rfl
theorem requestIs_regWr : RequestIs 0x50 (fun a b => .regWr a b) :=
  requestIs_of_code fun _ h => by rw [decodeRequest, h]; rfl
theorem requestIs_regRd : RequestIs 0x51 (fun a _ => .regRd a) :=
  requestIs_of_code fun _ h => by rw [decodeRequest, h]; rfl
theorem requestIs_bufRd : RequestIs 0x52 (fun a b => .bufRd a b) :=
  requestIs_of_code fun _ h => by rw [decodeRequest, h]; rfl

/-! ### Assigned and unassigned codes (spec/30_encoding.md R81, R83) -/

/-- The 31 codes of the operation map. -/
def assignedOps : List Byte :=
  [0x00, 0x01, 0x02, 0x03, 0x04, 0x10, 0x11, 0x12, 0x13, 0x14, 0x15, 0x16, 0x17, 0x20, 0x21, 0x22, 0x23, 0x24, 0x25, 0x28,
    0x29, 0x2A, 0x2B, 0x30, 0x31, 0x32, 0x33, 0x40, 0x50, 0x51, 0x52]

/-- Whether a request decodes is decided by its code alone. -/
theorem isOk_decodeRequest (w : RequestWord) :
    (decodeRequest w).isOk = (decodeRequest (requestWord (requestOp w) 0 0)).isOk := by
  unfold decodeRequest
  rw [requestOp_requestWord]
  split <;> rfl

theorem isOk_iff_mem_assignedOps :
    ∀ op : Byte, (decodeRequest (requestWord op 0 0)).isOk = true ↔ op ∈ assignedOps := by decide

theorem exists_decodeRequest_iff (w : RequestWord) : (∃ i, decodeRequest w = .ok i) ↔ requestOp w ∈ assignedOps := by
  rw [← isOk_iff_mem_assignedOps, ← isOk_decodeRequest]
  cases decodeRequest w <;> simp [Except.isOk, Except.toBool]

/-- The ranges of spec/30_encoding.md R83 are what the operation map leaves over. -/
theorem unassigned_ranges_iff : ∀ op : Byte,
    (0x05 ≤ op.toNat ∧ op.toNat ≤ 0x0F ∨ 0x18 ≤ op.toNat ∧ op.toNat ≤ 0x1F ∨ op.toNat = 0x26 ∨ op.toNat = 0x27 ∨
      0x2C ≤ op.toNat ∧ op.toNat ≤ 0x2F ∨ 0x34 ≤ op.toNat ∧ op.toNat ≤ 0x3F ∨ 0x41 ≤ op.toNat ∧ op.toNat ≤ 0x4F ∨
      0x53 ≤ op.toNat) ↔ op ∉ assignedOps := by decide

/-! ### The step table (spec/30_encoding.md R85) -/

theorem decodeSelector_sHelloTx (last : Bool) : decodeSelector (selectorWord 0 false last) = .ok .sHelloTx := by
  cases last <;> rfl
theorem decodeSelector_sHelloAck (last : Bool) : decodeSelector (selectorWord 0 true last) = .ok .sHelloAck := by
  cases last <;> rfl
theorem decodeSelector_sOpenTxFirst (last : Bool) : decodeSelector (selectorWord 1 false last) = .ok .sOpenTxFirst := by
  cases last <;> rfl
theorem decodeSelector_sOpenAckFirst (last : Bool) : decodeSelector (selectorWord 1 true last) = .ok .sOpenAckFirst := by
  cases last <;> rfl
theorem decodeSelector_sTrailerTx (last : Bool) : decodeSelector (selectorWord 2 false last) = .ok .sTrailerTx := by
  cases last <;> rfl
theorem decodeSelector_sChunk (last : Bool) : decodeSelector (selectorWord 3 false last) = .ok .sChunk := by
  cases last <;> rfl
theorem decodeSelector_sDataAck (last : Bool) : decodeSelector (selectorWord 3 true last) = .ok .sDataAck := by
  cases last <;> rfl
theorem decodeSelector_sOpenTxNext : decodeSelector (selectorWord 4 false false) = .ok .sOpenTxNext := rfl
theorem decodeSelector_sOpenAckNext (last : Bool) : decodeSelector (selectorWord 4 true last) = .ok .sOpenAckNext := by
  cases last <;> rfl
theorem decodeSelector_sCloseTx : decodeSelector (selectorWord 4 false true) = .ok .sCloseTx := rfl
theorem decodeSelector_sFinish (last : Bool) : decodeSelector (selectorWord 5 false last) = .ok .sFinish := by
  cases last <;> rfl

theorem decodeSelector_noStep : ∀ (seq : BitVec 4) (await last : Bool),
    seq = 2 ∧ await = true ∨ seq = 5 ∧ await = true ∨ 6 ≤ seq.toNat →
    decodeSelector (selectorWord seq await last) = .error (.noStep (selectorWord seq await last)) := by decide

theorem selected_not_busy {s : State} (h : s.busy = false) : s.selected = none := by
  rw [State.selected, h]
  rfl

theorem selected_busy {s : State} (h : s.busy = true) : s.selected = (decodeSelector s.selector).toOption := by
  rw [State.selected, if_pos h]

/-! ### Decoding the code of an instruction -/

/-- An operand narrower than its field stands in the field's low bits. -/
theorem extractLsb'_setWidth {n m : Nat} (h : n ≤ m) (x : BitVec n) : (x.setWidth m).extractLsb' 0 n = x := by
  rw [← BitVec.setWidth_eq_extractLsb' h, BitVec.setWidth_setWidth_of_le x h, BitVec.setWidth_eq]

theorem getLsbD_setWidth_ofBool (g : Bool) : ((BitVec.ofBool g).setWidth 32).getLsbD 0 = g := by
  cases g <;> rfl

/-- The code of a row of the map with an operand of `n` bits in `ARG0` decodes to that operand. -/
theorem RequestIs.narrow {op : Byte} {n : Nat} {f : BitVec n → Instr}
    (h : RequestIs op fun a _ => f (a.extractLsb' 0 n)) (hn : n ≤ 32) (x : BitVec n) : decodeRequest (requestWord op 0 (x.setWidth 32)) = .ok (f x) :=
  (h 0 (x.setWidth 32)).trans (congrArg (Except.ok ∘ f) (extractLsb'_setWidth hn x))

/-- No bit of an encoding is dropped (spec/30_encoding.md R80 to R85). -/
theorem decode_encode (i : Instr) : decode (encode i) = .ok i := by
  cases i with
  | crcInit => exact requestIs_crcInit 0 0
  | crcLoad init => exact requestIs_crcLoad.narrow (by decide) init
  | crcStep b => exact requestIs_crcStep.narrow (by decide) b
  | crcBuf n => exact requestIs_crcBuf 0 n
  | crcFinal => exact requestIs_crcFinal 0 0
  | frmEsc => exact requestIs_frmEsc 0 0
  | frmEnc => exact requestIs_frmEnc 0 0
  | frmRaw => exact requestIs_frmRaw 0 0
  | frmUnesc => exact requestIs_frmUnesc 0 0
  | frmDec => exact requestIs_frmDec 0 0
  | txSend => exact requestIs_txSend 0 0
  | frmClr => exact requestIs_frmClr 0 0
  | frmPut b => exact requestIs_frmPut.narrow (by decide) b
  | cmdClr => exact requestIs_cmdClr 0 0
  | cmdPut b => exact requestIs_cmdPut.narrow (by decide) b
  | cmdLoad t => exact requestIs_cmdLoad 0 t
  | cmdPut32 o v => exact requestIs_cmdPut32 v o
  | cmdInc2 o => exact requestIs_cmdInc2 0 o
  | cmdCrcpatch => exact requestIs_cmdCrcpatch 0 0
  | cmdHello g => exact (requestIs_cmdHello 0 _).trans (congrArg (Except.ok ∘ Instr.cmdHello) (getLsbD_setWidth_ofBool g))
  | cmdOpen p size => exact requestIs_cmdOpen size p
  | cmdTrailer p size => exact requestIs_cmdTrailer size p
  | cmdClose => exact requestIs_cmdClose 0 0
  | ackClr => exact requestIs_ackClr 0 0
  | ackPut b => exact requestIs_ackPut.narrow (by decide) b
  | ackRecv => exact requestIs_ackRecv 0 0
  | ackCheck k => exact requestIs_ackCheck.narrow (by decide) k
  | seqRun => exact requestIs_seqRun 0 0
  | regWr r v => exact requestIs_regWr v r
  | regRd r => exact requestIs_regRd 0 r
  | bufRd space index => exact requestIs_bufRd index space
  | sHelloTx => exact decodeSelector_sHelloTx false
  | sHelloAck => exact decodeSelector_sHelloAck false
  | sOpenTxFirst => exact decodeSelector_sOpenTxFirst false
  | sOpenTxNext => exact decodeSelector_sOpenTxNext
  | sOpenAckFirst => exact decodeSelector_sOpenAckFirst false
  | sOpenAckNext => exact decodeSelector_sOpenAckNext false
  | sTrailerTx => exact decodeSelector_sTrailerTx false
  | sChunk => exact decodeSelector_sChunk false
  | sDataAck => exact decodeSelector_sDataAck false
  | sCloseTx => exact decodeSelector_sCloseTx
  | sFinish => exact decodeSelector_sFinish false

/-! ### What a step does with a request (spec/30_encoding.md R83, R84; log 3) -/

section Requests
variable {s : State} {w v : RequestWord} {rest : List HostInput}

theorem arrive_of_presented (hp : s.port = none) (hh : s.host = .request w :: rest) :
    s.arrive = { s with port := some w, host := rest } := by
  simp only [State.arrive, hh, hp]

theorem arrive_of_no_input (hh : s.host = []) : s.arrive = s := by
  simp only [State.arrive, hh]

theorem arrive_of_idle_input (hh : s.host = .idle :: rest) : s.arrive = { s with host := rest } := by
  simp only [State.arrive, hh]

/-- An offered request waits before an occupied port. -/
theorem arrive_of_occupied (hp : s.port = some w) (hh : s.host = .request v :: rest) : s.arrive = s := by
  simp only [State.arrive, hh, hp]

theorem runRequest_decoded {i : Instr} (h : decodeRequest w = .ok i) (s : State) : s.runRequest w = exec i s := by
  simp only [State.runRequest, h]

theorem runRequest_unassigned (h : ∀ i, decodeRequest w ≠ .ok i) (s : State) :
    s.runRequest w = .next s.refuseUnassigned := by
  unfold State.runRequest
  split
  · exact absurd ‹_› (h _)
  · rfl

/-- Unless the host resets, the step runs the request that stands at the port after the host's input. -/
theorem step_of_arrive {t : State} (hr : s.resetNow = false) (ha : s.arrive = t) (hp : t.port = some w) :
    step s = t.runRequest w := by
  rw [step_turn hr, ha]
  simp only [State.turn, hp]

theorem step_of_presented (hp : s.port = none) (hh : s.host = .request w :: rest) :
    step s = State.runRequest { s with port := some w, host := rest } w :=
  step_of_arrive (by simp only [State.resetNow, hh]) (arrive_of_presented hp hh) rfl

theorem step_of_standing (hp : s.port = some w) (hh : s.host = []) : step s = s.runRequest w :=
  step_of_arrive (by simp only [State.resetNow, hh]) (arrive_of_no_input hh) hp

theorem step_of_standing_idle (hp : s.port = some w) (hh : s.host = .idle :: rest) :
    step s = State.runRequest { s with host := rest } w :=
  step_of_arrive (by simp only [State.resetNow, hh]) (arrive_of_idle_input hh) hp

theorem step_of_standing_offered (hp : s.port = some w) (hh : s.host = .request v :: rest) : step s = s.runRequest w :=
  step_of_arrive (by simp only [State.resetNow, hh]) (arrive_of_occupied hp hh) hp

/-- An unassigned code presented to a free port is refused: `IllegalOp` on the idle block, `Busy` elsewhere. -/
theorem step_of_unassigned (hp : s.port = none) (hh : s.host = .request w :: rest)
    (hw : ∀ i, decodeRequest w ≠ .ok i) :
    step s = .next { s with host := rest, operr := if s.isIdle then .illegalOp else .busy } := by
  rw [step_of_presented hp hh, runRequest_unassigned hw]
  simp only [State.refuseUnassigned, State.refuse, State.finish, hp]
  rfl

end Requests

/-! ### The block that is not idle (spec/30_encoding.md R84, spec/60_exceptions.md R239) -/

theorem not_idle_of_busy_or_finished {s : State} (h : s.busy = true ∨ s.seq = .done ∨ s.seq = .aborted) :
    s.isIdle = false := by
  rw [Bool.eq_false_iff]
  intro hidle
  obtain ⟨hbusy, hseq⟩ := (isIdle_iff s).mp hidle
  simp [hbusy, hseq] at h

/-- Every request but the two reads begins with the check for `Busy`. -/
theorem exec_not_idle {i : Instr} {s : State} (hreq : isRequest i = true) (hread : isRead i = false)
    (h : s.isIdle = false) : exec i s = .next (s.refuse .busy) := by
  cases i with
  | regRd | bufRd => cases hread
  | sHelloTx | sHelloAck | sOpenTxFirst | sOpenTxNext | sOpenAckFirst | sOpenAckNext | sTrailerTx | sChunk | sDataAck
  | sCloseTx | sFinish => cases hreq
  | _ => exact whenIdle_not_idle h

end Sys2Proof.Machine

section
open Sys2Proof Sys2Proof.Machine

/-! ### The obligations -/

/-- Settles O1: each instruction's code is a word of its row of the operation map or of the step table. -/
theorem decodeInvertsEncode : Obligations.DecodeInvertsEncode := decode_encode

/-- Settles O3: whether a word decodes is decided by its code (`exists_decodeRequest_iff`), and the step refuses it. -/
theorem unassignedCodesAreRefused : Obligations.UnassignedCodesAreRefused := by
  refine ⟨fun w => ?_, fun s w rest hidle hp hh hw => ?_⟩
  · exact (unassigned_ranges_iff (requestOp w)).trans ((exists_decodeRequest_iff w).not.symm.trans not_exists)
  · rw [step_of_unassigned hp hh hw, if_pos hidle]

/-- Settles O8: outside the idle block the check for `Busy` comes first. -/
theorem busyBlockRefusesAllButReads : Obligations.BusyBlockRefusesAllButReads := by
  intro s h
  have hidle := not_idle_of_busy_or_finished h
  refine ⟨fun i hreq hread => exec_not_idle hreq hread hidle, fun w rest hw hp hh => ?_⟩
  rw [step_of_unassigned hp hh hw, hidle]
  rfl

/-- Settles O2: the rows of the map, and the codes that decode. -/
theorem operationMap : Obligations.OperationMap :=
  ⟨requestIs_crcInit, requestIs_crcLoad, requestIs_crcStep, requestIs_crcBuf, requestIs_crcFinal, requestIs_frmEsc,
    requestIs_frmEnc, requestIs_frmRaw, requestIs_frmUnesc, requestIs_frmDec, requestIs_txSend, requestIs_frmClr,
    requestIs_frmPut, requestIs_cmdClr, requestIs_cmdPut, requestIs_cmdLoad, requestIs_cmdPut32, requestIs_cmdInc2,
    requestIs_cmdCrcpatch, requestIs_cmdHello, requestIs_cmdOpen, requestIs_cmdTrailer, requestIs_cmdClose,
    requestIs_ackClr, requestIs_ackPut, requestIs_ackRecv, requestIs_ackCheck, requestIs_seqRun, requestIs_regWr,
    requestIs_regRd, requestIs_bufRd, fun w i h => (exists_decodeRequest_iff w).mp ⟨i, h⟩⟩

/-- Settles O4: the rows of the table, the selectors without a step, and the selector read off the registers. -/
theorem selectorTable : Obligations.SelectorTable :=
  ⟨decodeSelector_sHelloTx, decodeSelector_sHelloAck, decodeSelector_sOpenTxFirst, decodeSelector_sOpenAckFirst,
    decodeSelector_sTrailerTx, decodeSelector_sChunk, decodeSelector_sDataAck, decodeSelector_sOpenTxNext,
    decodeSelector_sOpenAckNext, decodeSelector_sCloseTx, decodeSelector_sFinish, decodeSelector_noStep,
    fun _ => ⟨selected_not_busy, selected_busy⟩⟩

/-- Settles O5: each printed word is the request word of its fields, so the operation map says what it is. -/
theorem printedWordsDecode : Obligations.PrintedWordsDecode :=
  ⟨requestIs_crcStep 0 0x31, requestIs_frmEnc 0 0, requestIs_cmdPut32 299992 2, requestIs_cmdOpen 300000 0,
    requestIs_ackCheck 0 0x26, requestIs_seqRun 0 0, requestIs_regWr 300000 0x12, requestIs_bufRd 3 1,
    decodeSelector_sCloseTx⟩

/-- Settles O6, from the four ways in which a request comes to stand at the port. -/
theorem stepRunsTheRequest : Obligations.StepRunsTheRequest := by
  intro s w i rest hw
  refine ⟨fun hp hh => ?_, fun hp hh => ?_, fun hp hh => ?_, fun v hp hh => ?_⟩
  · rw [step_of_presented hp hh, runRequest_decoded hw]
  · rw [step_of_standing hp hh, runRequest_decoded hw]
  · rw [step_of_standing_idle hp hh, runRequest_decoded hw]
  · rw [step_of_standing_offered hp hh, runRequest_decoded hw]

end

/-! The programs of spec/30_encoding.md R95 and the pseudo-operations of R96: what a single request of them does on the
idle block, how a program that the host issues runs, and that it ends where `execAll` ends. -/
namespace Sys2Proof.Machine

/-! ### Single requests on the idle block -/

/-- The bytes of a command before its slot stay when the slot is patched (spec/42_command_builder.md R159). -/
theorem payload_sealCmd {t : List Byte} (h : 2 ≤ t.length) : payload (sealCmd t) = payload t := by
  have hlen : (t.take (t.length - slotLen)).length = t.length - slotLen := by
    simp only [List.length_take]
    omega
  rw [payload, sealCmd_length t h, sealCmd, patch, List.append_assoc, List.take_left' hlen, payload]

/-- A write that the transport answers (spec/20_memory.md R56). -/
theorem txWrite_of_cons {s : State} {r : TxResult} {rest : List TxResult} (h : s.tx = r :: rest) (b : List Byte) :
    s.txWrite b = some (r, { s with tx := rest, history := s.history ++ [.tx b r] }) := by
  simp only [State.txWrite, h]

/-- A read of a burst that fits `ACK` (spec/20_memory.md R58). -/
theorem rxRead_of_burst {s : State} {r : List Byte} {rest : List RxResult} (h : s.rx = .burst r :: rest)
    (hr : r.length ≤ ackBufLen s.cfg) :
    s.rxRead = some (.burst r, { s with rx := rest, ack := r, history := s.history ++ [.rx (.burst r)] }) := by
  simp only [State.rxRead, h, List.take_of_length_le hr, List.drop_of_length_le hr, if_true]

section Presented
variable {s : State} (h : s.isIdle = true)
include h

/-- On the idle block a presented request runs its body. -/
theorem exec_present {i : Instr} {body : Result} (hi : exec i (s.present i) = (s.present i).whenIdle body) :
    exec i (s.present i) = body :=
  hi.trans (whenIdle_idle ((present_isIdle s i).trans h))

theorem exec_present_cmdInc2 {o : Word32} {n : Nat} (ho : o.toNat = n) (hn : n + 2 ≤ s.cmd.length) :
    exec (.cmdInc2 o) (s.present (.cmdInc2 o)) = .next { s.performed with cmd := inc2 s.cmd n } := by
  subst ho
  exact (exec_present h rfl).trans (if_neg (Nat.not_lt.mpr hn))

/-- Sealing the command is a build of it (spec/42_command_builder.md R156, R164). -/
theorem exec_present_cmdCrcpatch (hlen : 2 ≤ s.cmd.length) :
    exec .cmdCrcpatch (s.present .cmdCrcpatch) = .next (s.performed.build (sealCmd s.cmd)) := by
  rw [State.build, payload_sealCmd hlen]
  exact (exec_present h rfl).trans (if_neg (Nat.not_lt.mpr hlen))

theorem exec_present_crcBuf {n : Word32} (hn : n.toNat ≤ s.cmd.length) :
    exec (.crcBuf n) (s.present (.crcBuf n)) = .next { s.performed with crc := crc16 s.crc (s.cmd.take n.toNat) } :=
  (exec_present h rfl).trans (if_neg (Nat.not_lt.mpr hn))

theorem exec_present_cmdPut (b : Byte) (hfree : s.cmd.length < cmdMax s.cfg) :
    exec (.cmdPut b) (s.present (.cmdPut b)) = .next { s.performed with cmd := s.cmd ++ [b] } :=
  (exec_present h rfl).trans (if_neg hfree.ne)

theorem exec_present_frmPut (b : Byte) (hfree : s.frm.length < frmMax s.cfg) :
    exec (.frmPut b) (s.present (.frmPut b)) = .next { s.performed with frm := s.frm ++ [b] } :=
  (exec_present h rfl).trans (if_neg hfree.ne)

theorem exec_present_ackPut (b : Byte) (hfree : s.ack.length < ackBufLen s.cfg) :
    exec (.ackPut b) (s.present (.ackPut b)) = .next { s.performed with ack := s.ack ++ [b] } :=
  (exec_present h rfl).trans (if_neg hfree.ne)

theorem exec_present_txSend_ok {rest : List TxResult} (htx : s.tx = .ok :: rest) :
    exec .txSend (s.present .txSend) =
      .next { s.performed with tx := rest, history := s.history ++ [.tx s.frm .ok] } := by
  refine (exec_present h rfl).trans ?_
  rw [txWrite_of_cons (s := s.present .txSend) htx]
  rfl

theorem exec_present_txSend_silent (htx : s.tx = []) :
    exec .txSend (s.present .txSend) = .next { s with port := some 0x150000000000000000 } := by
  refine (exec_present h rfl).trans ?_
  rw [(txWrite_none (s := s.present .txSend)).mpr htx]
  rfl

theorem exec_present_ackRecv_burst {r : List Byte} {rest : List RxResult} (hrx : s.rx = .burst r :: rest)
    (hr : r.length ≤ ackBufLen s.cfg) :
    exec .ackRecv (s.present .ackRecv) =
      .next { s.performed with rx := rest, ack := r, history := s.history ++ [.rx (.burst r)] } := by
  refine (exec_present h rfl).trans ?_
  rw [rxRead_of_burst (s := s.present .ackRecv) hrx hr]
  rfl

theorem exec_present_ackRecv_silent (hrx : s.rx = []) :
    exec .ackRecv (s.present .ackRecv) = .next { s with port := some 0x320000000000000000 } := by
  refine (exec_present h rfl).trans ?_
  rw [(rxRead_none (s := s.present .ackRecv)).mpr hrx]
  rfl

end Presented

/-! ### Pseudo-operations (spec/30_encoding.md R96) -/

/-- A run of `PUT`s: from each content `l` below the capacity the buffer takes one more byte (`filled l` is the state in
which the buffer holds `l`). -/
theorem execAll_puts {put : Byte → Instr} {filled : List Byte → State} {cap : Nat}
    (hport : ∀ l, (filled l).port = none)
    (hput : ∀ l b, l.length < cap → exec (put b) ((filled l).present (put b)) = .next (filled (l ++ [b])))
    (bs l : List Byte) (hfits : l.length + bs.length ≤ cap) :
    execAll (bs.map put) (filled l) = .next (filled (l ++ bs)) := by
  induction bs generalizing l with
  | nil => rw [List.map_nil, execAll_nil, List.append_nil]
  | cons b bs ih =>
    rw [List.length_cons] at hfits
    have hstep := hput l b (by omega)
    have hrest := ih (l ++ [b]) (by rw [List.length_append, List.length_singleton]; omega)
    rw [List.map_cons, execAll_cons (hport l) hstep, hrest, List.append_assoc, List.singleton_append]

section PseudoRuns
variable {s : State} (h : s.isIdle = true) (hp : s.port = none)
include h hp

/-- An operation of the idle block without a check of its own. -/
theorem execAll_performs {i : Instr} {u : State} (hi : exec i (s.present i) = (s.present i).whenIdle (.next u))
    (rest : List Instr) : execAll (i :: rest) s = execAll rest u :=
  execAll_cons hp (exec_present h hi) rest

theorem execAll_helloManual (g : Bool) :
    execAll (expand s.cfg (.helloManual g)) s = .next (s.performed.build (helloCmd s.cfg g)) := by
  have hload (rest : List Instr) :
      execAll (.cmdLoad 0 :: rest) s = execAll rest { s.performed with cmd := helloT s.cfg } :=
    execAll_performs h hp rfl rest
  have hidle (c : List Byte) : State.isIdle { s.performed with cmd := c } = true := h
  have hseal {c : List Byte} (hc : c.length = 37) :
      execAll [.cmdCrcpatch] { s.performed with cmd := c } = .next (s.performed.build (sealCmd c)) :=
    execAll_cons rfl (exec_present_cmdCrcpatch (hidle c) ((by decide : 2 ≤ 37).trans_eq hc.symm)) []
  cases g with
  | false => exact (hload _).trans (hseal (helloT_length s.cfg))
  | true =>
    have hgen := genOff_lt s.cfg
    have hoff : (BitVec.ofNat 32 (genOff s.cfg)).toNat = genOff s.cfg := by
      rw [BitVec.toNat_ofNat]
      omega
    have hfits : genOff s.cfg + 2 ≤ (helloT s.cfg).length := by
      rw [helloT_length]
      omega
    calc execAll (expand s.cfg (.helloManual true)) s
        = execAll [.cmdInc2 (BitVec.ofNat 32 (genOff s.cfg)), .cmdCrcpatch] { s.performed with cmd := helloT s.cfg } :=
          hload _
      _ = execAll [.cmdCrcpatch] { s.performed with cmd := inc2 (helloT s.cfg) (genOff s.cfg) } :=
          execAll_cons rfl (exec_present_cmdInc2 (hidle _) hoff hfits) _
      _ = .next (s.performed.build (helloCmd s.cfg true)) :=
          hseal ((inc2_length hfits).trans (helloT_length s.cfg))

/-- `CRC16 n`: the accumulator is set, folded over the first `n` bytes, and finalised (spec/40_crc_engine.md R116). -/
theorem execAll_crc16 {n : Word32} (hn : n.toNat ≤ s.cmd.length) :
    execAll (expand s.cfg (.crc16 n)) s = .next
      { s.performed with
        crc := crc16 crcInitial (s.cmd.take n.toNat), res := (fcs (s.cmd.take n.toNat)).setWidth 32 } := by
  have hidle (c : Word16) : State.isIdle { s.performed with crc := c } = true := h
  calc execAll (expand s.cfg (.crc16 n)) s
      = execAll [.crcBuf n, .crcFinal] { s.performed with crc := crcInitial } := execAll_performs h hp rfl _
    _ = execAll [.crcFinal] { s.performed with crc := crc16 crcInitial (s.cmd.take n.toNat) } :=
        execAll_cons rfl (exec_present_crcBuf (hidle _) hn) _
    _ = _ := execAll_performs (hidle _) rfl rfl []

theorem execAll_cmdBytes {bs : List Byte} (hfits : bs.length ≤ cmdMax s.cfg) :
    execAll (expand s.cfg (.cmdBytes bs)) s = .next { s.performed with cmd := bs } := by
  have hidle (l : List Byte) : State.isIdle { s.performed with cmd := l } = true := h
  exact (execAll_performs h hp rfl _).trans
    (execAll_puts (fun _ => rfl) (fun l b hl => exec_present_cmdPut (hidle l) b hl) bs []
      ((Nat.zero_add _).trans_le hfits))

theorem execAll_frmBytes {bs : List Byte} (hfits : bs.length ≤ frmMax s.cfg) :
    execAll (expand s.cfg (.frmBytes bs)) s = .next { s.performed with frm := bs } := by
  have hidle (l : List Byte) : State.isIdle { s.performed with frm := l } = true := h
  exact (execAll_performs h hp rfl _).trans
    (execAll_puts (fun _ => rfl) (fun l b hl => exec_present_frmPut (hidle l) b hl) bs []
      ((Nat.zero_add _).trans_le hfits))

theorem execAll_ackBytes {bs : List Byte} (hfits : bs.length ≤ ackBufLen s.cfg) :
    execAll (expand s.cfg (.ackBytes bs)) s = .next { s.performed with ack := bs } := by
  have hidle (l : List Byte) : State.isIdle { s.performed with ack := l } = true := h
  exact (execAll_performs h hp rfl _).trans
    (execAll_puts (fun _ => rfl) (fun l b hl => exec_present_ackPut (hidle l) b hl) bs []
      ((Nat.zero_add _).trans_le hfits))

theorem execAll_txSend_ok {rest : List TxResult} (htx : s.tx = .ok :: rest) :
    execAll [.txSend] s = .next { s.performed with tx := rest, history := s.history ++ [.tx s.frm .ok] } :=
  execAll_cons hp (exec_present_txSend_ok h htx) []

/-- A write that does not return: `TX.SEND` stands at the port. -/
theorem execAll_txSend_silent (htx : s.tx = []) :
    execAll [.txSend] s = .next { s with port := some 0x150000000000000000 } :=
  execAll_cons hp (exec_present_txSend_silent h htx) []

/-- `AWAIT k`: one burst taken, its verdict recorded. -/
theorem execAll_awaitAck {r : List Byte} {rest : List RxResult} (hrx : s.rx = .burst r :: rest)
    (hr : r.length ≤ ackBufLen s.cfg) (k : Byte) :
    ∃ t, execAll (expand s.cfg (.awaitAck k)) s = .next t ∧ t.ack = r ∧
      t.lastack = ⟨(validate r k).1, (validate r k).2, k⟩ := by
  have hcheck (u : State) (hu : u.isIdle = true) (hport : u.port = none) :
      execAll [.ackCheck k] u = .next
        { (u.record (validate u.ack k) k).performed with
          res := lastAckWord ⟨(validate u.ack k).1, (validate u.ack k).2, k⟩ } :=
    execAll_performs hu hport rfl []
  exact ⟨_, (execAll_cons hp (exec_present_ackRecv_burst h hrx hr) _).trans (hcheck _ h rfl), rfl, rfl⟩

/-- A read that does not return: `ACK.RECV` stands at the port and `ACK.CHECK` waits. -/
theorem execAll_awaitAck_silent (hrx : s.rx = []) (k : Byte) :
    execAll (expand s.cfg (.awaitAck k)) s = .next { s with port := some 0x320000000000000000 } :=
  (execAll_cons hp (exec_present_ackRecv_silent h hrx) _).trans (execAll_occupied (by simp) _)

end PseudoRuns

/-! ### What no request sees: the host's coming inputs (log 3) -/

/-- An outcome with the host's coming inputs put in place. -/
def withHost (host : List HostInput) : Result → Result
  | .next t => .next { t with host := host }
  | .fault f => .fault f
  | .refused r => .refused r

section WithHost
variable (s : State) (host : List HostInput)

theorem whenIdle_withHost {body body' : Result} (h : body' = withHost host body) :
    State.whenIdle { s with host := host } body' = withHost host (s.whenIdle body) := by
  cases hidle : s.isIdle with
  | true => rw [whenIdle_idle hidle, ← h]; exact whenIdle_idle hidle
  | false => rw [whenIdle_not_idle hidle]; exact whenIdle_not_idle hidle

theorem txWrite_withHost (b : List Byte) :
    State.txWrite { s with host := host } b = (s.txWrite b).map fun p => (p.1, { p.2 with host := host }) := by
  simp only [State.txWrite]
  cases s.tx <;> rfl

theorem rxRead_withHost :
    State.rxRead { s with host := host } = s.rxRead.map fun p => (p.1, { p.2 with host := host }) := by
  simp only [State.rxRead]
  rcases s.rx with _ | ⟨_ | _, rest⟩ <;> rfl

theorem takeDecoded_withHost (r : Except OpErr (List Byte)) :
    State.takeDecoded { s with host := host } r = { s.takeDecoded r with host := host } := by
  cases r with
  | error e => rfl
  | ok b => simp only [State.takeDecoded]; split <;> rfl

theorem writeReg_withHost (g : Reg) (v : Word32) :
    State.writeReg { s with host := host } g v = (s.writeReg g v).map fun t => { t with host := host } := by
  cases g <;> rfl

theorem exec_withHost {i : Instr} (hi : isRequest i = true) :
    exec i { s with host := host } = withHost host (exec i s) := by
  cases i with
  | crcInit | crcLoad | crcStep | crcFinal | frmEsc | frmEnc | frmRaw | frmClr | cmdClr | cmdHello | cmdClose | ackClr
  | ackCheck => exact whenIdle_withHost s host rfl
  | crcBuf | frmPut | cmdPut | cmdPut32 | cmdInc2 | cmdCrcpatch | ackPut | seqRun =>
    refine whenIdle_withHost s host ?_
    rw [apply_ite (withHost host)]
    rfl
  | frmUnesc | frmDec => exact whenIdle_withHost s host (congrArg Host.Outcome.next (takeDecoded_withHost s host _))
  | cmdLoad | cmdOpen | cmdTrailer =>
    refine whenIdle_withHost s host ?_
    dsimp only
    split <;> rfl
  | txSend =>
    refine whenIdle_withHost s host ?_
    rw [txWrite_withHost]
    rcases s.txWrite s.frm with _ | ⟨_ | _, t⟩ <;> rfl
  | ackRecv =>
    refine whenIdle_withHost s host ?_
    rw [rxRead_withHost]
    rcases s.rxRead with _ | ⟨_ | _, t⟩ <;> rfl
  | regWr r v =>
    refine whenIdle_withHost s host ?_
    simp only [writeReg_withHost]
    rcases regOf r with _ | g
    · rfl
    · simp only [Option.bind_some]
      cases s.writeReg g v <;> rfl
  | regRd r =>
    simp only [exec, execRegRd]
    cases regOf r <;> rfl
  | bufRd space index =>
    have hread (sp : Space) : State.readByte { s with host := host } sp index.toNat = s.readByte sp index.toNat := by
      cases sp <;> rfl
    simp only [exec, execBufRd, hread]
    cases (spaceOf space).bind fun sp => s.readByte sp index.toNat <;> rfl
  | _ => cases hi

end WithHost

/-! ### When a request leaves the port (spec/30_encoding.md R95, log 7) -/

section Leaves
variable {s t : State}

theorem whenIdle_finishes {body : Result} (h : s.whenIdle body = .next t)
    (hbody : body = .next t → t.port = none ∨ t = s) : t.port = none ∨ t = s := by
  rcases whenIdle_next h with ⟨-, h⟩ | ⟨-, rfl⟩
  · exact hbody h
  · exact .inl rfl

theorem takeDecoded_port (s : State) (r : Except OpErr (List Byte)) : (s.takeDecoded r).port = none := by
  unfold State.takeDecoded
  split
  · rfl
  · split <;> rfl

/-- A request is finished in one step, or its transport call has not returned and nothing has changed. -/
theorem request_finishes_or_stands {i : Instr} (hi : isRequest i = true) (h : exec i s = .next t) :
    t.port = none ∨ t = s := by
  cases i with
  | crcInit | crcLoad | crcStep | crcFinal | frmEsc | frmEnc | frmRaw | frmClr | cmdClr | cmdHello | cmdClose | ackClr
  | ackCheck => exact whenIdle_finishes h fun e => by cases e; exact .inl rfl
  | crcBuf | frmPut | cmdPut | cmdPut32 | cmdInc2 | cmdCrcpatch | ackPut | seqRun | cmdLoad | cmdOpen | cmdTrailer
  | regWr => exact whenIdle_finishes h fun e => by split at e <;> cases e <;> exact .inl rfl
  | frmUnesc | frmDec => exact whenIdle_finishes h fun e => by cases e; exact .inl (takeDecoded_port s _)
  | txSend | ackRecv =>
    refine whenIdle_finishes h fun e => ?_
    split at e <;> cases e
    · exact .inr rfl
    · exact .inl rfl
    · exact .inl rfl
  | regRd | bufRd =>
    simp only [exec, execRegRd, execBufRd] at h
    split at h <;> cases h <;> exact .inl rfl
  | _ => cases hi

end Leaves

/-! ### A program that the host issues (spec/30_encoding.md R95) -/

theorem exists_request {i : Instr} (hi : isRequest i = true) : ∃ w, encode i = .request w := by
  unfold isRequest at hi
  split at hi
  · exact ⟨_, ‹_›⟩
  · cases hi

theorem decodeRequest_of_encode {i : Instr} {w : RequestWord} (h : encode i = .request w) :
    decodeRequest w = .ok i := by
  have := decode_encode i
  rwa [h] at this

theorem issue_cons {i : Instr} {w : RequestWord} (h : encode i = .request w) (p : List Instr) :
    issue (i :: p) = .request w :: issue p := by
  simp [issue, h]

/-- A state that answers itself answers itself after any number of steps. -/
theorem runFor_of_fixed {s : State} (h : step s = .next s) (k : Nat) : runFor k s = .next s := by
  induction k with
  | zero => rfl
  | succ k ih => rw [runFor_succ h, ih]

section Issued
variable {s t : State} {i : Instr} {p : List Instr}

theorem present_occupied (hi : isRequest i = true) (s : State) : (s.present i).port ≠ none := by
  obtain ⟨w, hw⟩ := exists_request hi
  rw [present_request hw]
  exact Option.some_ne_none w

theorem issue_suffix_cons (hi : isRequest i = true) (p : List Instr) : issue p <:+ issue (i :: p) := by
  obtain ⟨w, hw⟩ := exists_request hi
  rw [issue_cons hw]
  exact List.suffix_cons _ _

/-- The program's first request enters the free port and is run. -/
theorem step_issue_cons (hi : isRequest i = true) (hport : s.port = none) (p : List Instr) :
    step { s with host := issue (i :: p) } = withHost (issue p) (exec i (s.present i)) := by
  obtain ⟨w, hw⟩ := exists_request hi
  rw [step_of_presented (s := { s with host := issue (i :: p) }) hport (issue_cons hw p),
    runRequest_decoded (decodeRequest_of_encode hw), ← exec_withHost _ _ hi, present_request hw]

/-- A request that stands at the port is tried again, whatever of the program still waits before it. -/
theorem step_issue_standing (hi : isRequest i = true) (hreq : ∀ j ∈ p, isRequest j = true) (s : State) :
    step { s.present i with host := issue p } = withHost (issue p) (exec i (s.present i)) := by
  obtain ⟨w, hw⟩ := exists_request hi
  rw [← exec_withHost _ _ hi, ← runRequest_decoded (decodeRequest_of_encode hw), present_request hw]
  cases p with
  | nil => exact step_of_standing rfl rfl
  | cons j rest =>
    obtain ⟨v, hv⟩ := exists_request (hreq j List.mem_cons_self)
    exact step_of_standing_offered rfl (issue_cons hv rest)

/-- `execAll` and the host that issues the program agree: a request that finishes leaves the rest to the induction, one
that stands holds both. -/
theorem runFor_issue (hreq : ∀ j ∈ p, isRequest j = true) (hport : s.port = none) (h : execAll p s = .next t) :
    ∃ waiting, waiting <:+ issue p ∧ (t.port = none → waiting = []) ∧
      runFor p.length { s with host := issue p } = .next { t with host := waiting } := by
  induction p generalizing s with
  | nil =>
    cases h
    exact ⟨[], List.suffix_rfl, fun _ => rfl, rfl⟩
  | cons i p ih =>
    obtain ⟨hi, hrest⟩ := List.forall_mem_cons.mp hreq
    rcases execAll_next h with ⟨hnil, -⟩ | ⟨hocc, -⟩ | ⟨-, j, rest, u, hcons, hexec, htail⟩
    · cases hnil
    · exact absurd hport hocc
    cases hcons
    have hstep : step { s with host := issue (i :: p) } = .next { u with host := issue p } := by
      rw [step_issue_cons hi hport, hexec]
      rfl
    rw [List.length_cons, runFor_succ hstep]
    rcases request_finishes_or_stands hi hexec with hfree | rfl
    · obtain ⟨waiting, hsuffix, hdone, hrun⟩ := ih hrest hfree htail
      exact ⟨waiting, hsuffix.trans (issue_suffix_cons hi p), hdone, hrun⟩
    · have hocc := present_occupied hi s
      cases (execAll_occupied hocc p).symm.trans htail
      have hstands := (step_issue_standing hi hrest s).trans (congrArg (withHost (issue p)) hexec)
      exact ⟨issue p, issue_suffix_cons hi p, fun hfree => absurd hfree hocc, runFor_of_fixed hstands _⟩

end Issued

end Sys2Proof.Machine

section
open Sys2Proof Sys2Proof.Machine

/-- Settles O28: each pseudo-operation request by request, and the issued program by induction (`runFor_issue`). -/
theorem pseudoOperations : Obligations.PseudoOperations := by
  intro s hidle
  have h : State.isIdle { s with port := none } = true := hidle
  have hframed (c : List Byte) : State.isIdle { s.performed with frm := c } = true := hidle
  refine ⟨fun g => ?_, fun n hn => ?_, fun bs hfits => ?_, fun bs hfits => ?_, fun bs hfits => ?_,
    fun rest htx => ⟨?_, ?_⟩, fun k r rest hrx hr => ?_, fun htx => ⟨?_, ?_⟩, fun hrx k => ?_, fun p t hreq hrun => ?_⟩
  · exact (execAll_helloManual h rfl g).trans (whenIdle_idle hidle).symm
  · exact ⟨_, execAll_crc16 h rfl hn, rfl⟩
  · exact execAll_cmdBytes h rfl hfits
  · exact execAll_frmBytes h rfl hfits
  · exact execAll_ackBytes h rfl hfits
  · exact (execAll_performs h rfl rfl _).trans (execAll_txSend_ok (hframed _) rfl htx)
  · exact (execAll_performs h rfl rfl _).trans (execAll_txSend_ok (hframed _) rfl htx)
  · exact execAll_awaitAck h rfl hrx hr k
  · exact (execAll_performs h rfl rfl _).trans (execAll_txSend_silent (hframed _) rfl htx)
  · exact (execAll_performs h rfl rfl _).trans (execAll_txSend_silent (hframed _) rfl htx)
  · exact execAll_awaitAck_silent h rfl hrx k
  · exact runFor_issue hreq rfl hrun

end

/-! The CRC Engine of spec/40_crc_engine.md: the bit-serial algorithm is linear, so the table, which holds it for a single
byte (`crcTable_bitSerial`), gives it for every accumulator (R115); what data sealed with its own CRC leaves (R124). -/
namespace Sys2Proof.Machine

/-! ### The bytes of a word -/

theorem highByte_setWidth (v : Word16) : ((v >>> 8).setWidth 8).setWidth 16 = v >>> 8 := by bv_omega

theorem shift8_byte (b : Byte) : b.setWidth 16 >>> 8 = 0#16 := by
  rw [← BitVec.setWidth_ushiftRight (by decide), BitVec.ushiftRight_eq_zero le_rfl, BitVec.setWidth_zero]

theorem shift8_shift8 (v : Word16) : v >>> 8 >>> 8 = 0#16 := by
  rw [← BitVec.shiftRight_add, BitVec.ushiftRight_eq_zero le_rfl]

/-- A word is its high byte above its low byte. -/
theorem highByte_xor_lowByte (v : Word16) : v >>> 8 <<< 8 ^^^ (v.setWidth 8).setWidth 16 = v := by
  ext i hi
  by_cases hlow : i < 8
  · simp [hlow, BitVec.getLsbD_eq_getElem hi]
  · have hback : 8 + (i - 8) = i := by omega
    simp [hlow, hback, BitVec.getLsbD_eq_getElem hi]

/-- A byte of a word and that byte of the complement. -/
theorem byte_xor_not {c : Word16} {k : Nat} (hk : k + 8 ≤ 16) :
    (c >>> k).setWidth 8 ^^^ (~~~ c).extractLsb' k 8 = 0xFF := by
  change _ = BitVec.allOnes 8
  ext i hi
  have hik : k + i < 16 := by omega
  rw [BitVec.getElem_allOnes]
  simp [hik]

/-! ### The bit-serial algorithm (spec/40_crc_engine.md R113, R115) -/

/-- An iteration is linear over exclusive or: the polynomial enters once for each operand whose low bit is set. -/
theorem crcBit_xor (a b : Word16) : crcBit (a ^^^ b) = crcBit a ^^^ crcBit b := by
  simp only [crcBit, BitVec.getLsbD_xor, BitVec.ushiftRight_xor_distrib]
  cases a.getLsbD 0 <;> cases b.getLsbD 0
  case false.false => rfl
  case false.true => exact BitVec.xor_assoc _ _ _
  case true.false =>
    change (a >>> 1) ^^^ (b >>> 1) ^^^ crcPoly = (a >>> 1) ^^^ crcPoly ^^^ (b >>> 1)
    ac_rfl
  case true.true =>
    calc (a >>> 1) ^^^ (b >>> 1)
        = (a >>> 1) ^^^ (b >>> 1) ^^^ (crcPoly ^^^ crcPoly) := by rw [BitVec.xor_self, BitVec.xor_zero]
      _ = (a >>> 1) ^^^ crcPoly ^^^ ((b >>> 1) ^^^ crcPoly) := by ac_rfl

theorem crcBits8_xor (a b : Word16) : crcBits8 (a ^^^ b) = crcBits8 a ^^^ crcBits8 b := by
  simp only [crcBits8, crcBit_xor]

/-- Above eight zero bits the polynomial is never applied: the byte there only moves down. -/
theorem crcBits8_shiftedByte : ∀ h : Byte, crcBits8 (h.setWidth 16 <<< 8) = h.setWidth 16 := by decide

/-- Eight iterations by the table: the high byte moves down, the low byte selects the entry. -/
theorem crcBits8_eq_table (v : Word16) : crcBits8 v = (v >>> 8) ^^^ crcTable (v.setWidth 8) := by
  have hhigh : crcBits8 (v >>> 8 <<< 8) = v >>> 8 := by
    rw [← highByte_setWidth, crcBits8_shiftedByte]
  calc crcBits8 v
      = crcBits8 (v >>> 8 <<< 8) ^^^ crcBits8 ((v.setWidth 8).setWidth 16) := by
        rw [← crcBits8_xor, highByte_xor_lowByte]
    _ = (v >>> 8) ^^^ crcTable (v.setWidth 8) := by rw [hhigh, crcTable_bitSerial]

/-! ### The accumulator after its own complement (spec/40_crc_engine.md R124) -/

/-- The first byte of the complement selects entry 0xFF whatever the accumulator. -/
theorem crcByte_lowByte_not (c : Word16) : crcByte c ((~~~ c).extractLsb' 0 8) = (c >>> 8) ^^^ crcTable 0xFF := by
  have hlow : c.setWidth 8 ^^^ (~~~ c).extractLsb' 0 8 = 0xFF := byte_xor_not (k := 0) (by decide)
  rw [crcByte, hlow]

/-- The second byte cancels what is left of the accumulator. -/
theorem crcByte_highByte_not (c v : Word16) :
    crcByte ((c >>> 8) ^^^ v) ((~~~ c).extractLsb' 8 8) = (v >>> 8) ^^^ crcTable (v.setWidth 8 ^^^ 0xFF) := by
  have hhigh : ((c >>> 8) ^^^ v) >>> 8 = v >>> 8 := by
    rw [BitVec.ushiftRight_xor_distrib, shift8_shift8, BitVec.zero_xor]
  have hlow : ((c >>> 8) ^^^ v).setWidth 8 ^^^ (~~~ c).extractLsb' 8 8 = v.setWidth 8 ^^^ 0xFF := by
    rw [BitVec.setWidth_xor, BitVec.xor_comm (BitVec.setWidth 8 (c >>> 8)), BitVec.xor_assoc, byte_xor_not (by decide)]
  rw [crcByte, hhigh, hlow]

theorem crc16_le16_not (c : Word16) : crc16 c (le16 (~~~ c)) = 0xF0B8 :=
  calc crc16 c (le16 (~~~ c))
      = crcByte (crcByte c ((~~~ c).extractLsb' 0 8)) ((~~~ c).extractLsb' 8 8) := rfl
    _ = (crcTable 0xFF >>> 8) ^^^ crcTable ((crcTable 0xFF).setWidth 8 ^^^ 0xFF) := by
        rw [crcByte_lowByte_not, crcByte_highByte_not]
    _ = 0xF0B8 := by decide

end Sys2Proof.Machine

section
open Sys2Proof Sys2Proof.Machine

/-- Settles O11: the table form of eight iterations, at the word whose high byte is the accumulator's. -/
theorem crcStepIsEightBitSteps : Obligations.CrcStepIsEightBitSteps := by
  intro c b
  have hhigh : (c ^^^ b.setWidth 16) >>> 8 = c >>> 8 := by
    rw [BitVec.ushiftRight_xor_distrib, shift8_byte, BitVec.xor_zero]
  have hlow : (c ^^^ b.setWidth 16).setWidth 8 = c.setWidth 8 ^^^ b := by
    simp
  rw [crcBits8_eq_table, hhigh, hlow, crcByte]

/-- Settles O12: the fold over the data leaves some accumulator, and every accumulator takes its own complement to the
residue. -/
theorem sealedDataLeavesTheResidue : Obligations.SealedDataLeavesTheResidue := fun d =>
  (crc16_append 0xFFFF d (le16 (fcs d))).trans (crc16_le16_not (crc16 0xFFFF d))

/-- Settles O10: the rows of the map, and what each operation does once the idle check has passed. -/
theorem crcOperations : Obligations.CrcOperations :=
  ⟨requestIs_crcInit, requestIs_crcLoad, requestIs_crcStep, requestIs_crcBuf, requestIs_crcFinal, fun _ hidle =>
    ⟨whenIdle_idle hidle, fun _ => whenIdle_idle hidle, fun _ => whenIdle_idle hidle, fun _ => whenIdle_idle hidle,
      whenIdle_idle hidle⟩⟩

end

/-! The Frame Codec of spec/41_frame_codec.md: `escape` goes byte by byte, so it is fixed by the pair that stands for each
byte (`escapeByte`); a list of bytes is empty, begins with such a pair, or is refused by `unescape` (`escaped_cases`), so
the two functions undo each other; and what the codec's operations answer on the idle block. -/
namespace Sys2Proof.Machine

/-! ### Escaping, byte by byte (spec/41_frame_codec.md R130, R131) -/

theorem escapeByte_delim : escapeByte delim = [esc, escDelim] := if_pos rfl

theorem escapeByte_esc : escapeByte esc = [esc, escEsc] := (if_neg (by decide)).trans (if_pos rfl)

theorem escapeByte_plain {x : Byte} (hd : x ≠ delim) (he : x ≠ esc) : escapeByte x = [x] :=
  (if_neg hd).trans (if_neg he)

@[simp] theorem escape_nil : escape [] = [] := rfl

@[simp] theorem escape_cons (x : Byte) (b : List Byte) : escape (x :: b) = escapeByte x ++ escape b := List.flatMap_cons

theorem escape_singleton (x : Byte) : escape [x] = escapeByte x := List.flatMap_singleton escapeByte x

theorem escape_append (a b : List Byte) : escape (a ++ b) = escape a ++ escape b := List.flatMap_append

theorem delim_notMem_escapeByte (x : Byte) : delim ∉ escapeByte x := by
  by_cases hd : x = delim
  · subst hd; decide
  by_cases he : x = esc
  · subst he; decide
  rw [escapeByte_plain hd he, List.mem_singleton]
  exact Ne.symm hd

theorem delim_notMem_escape (b : List Byte) : delim ∉ escape b := fun h => by
  obtain ⟨x, -, hx⟩ := List.mem_flatMap.mp h
  exact delim_notMem_escapeByte x hx

/-- An escape byte in escaped bytes begins a pair: it is never the second byte of one, nor a byte that passes unchanged
(spec/41_frame_codec.md R133). -/
theorem escape_esc_followed (b : List Byte) (i : Nat) (h : (escape b)[i]? = some esc) :
    (escape b)[i + 1]? = some escDelim ∨ (escape b)[i + 1]? = some escEsc := by
  induction b generalizing i with
  | nil => cases h
  | cons x b ih =>
    rw [escape_cons] at h ⊢
    by_cases hd : x = delim
    · rw [hd, escapeByte_delim] at h ⊢
      match i with
      | 0 => exact .inl rfl
      | 1 => exact absurd (Option.some.inj h) (by decide)
      | j + 2 => exact ih j h
    by_cases he : x = esc
    · rw [he, escapeByte_esc] at h ⊢
      match i with
      | 0 => exact .inr rfl
      | 1 => exact absurd (Option.some.inj h) (by decide)
      | j + 2 => exact ih j h
    rw [escapeByte_plain hd he] at h ⊢
    cases i with
    | zero => exact absurd (Option.some.inj h) he
    | succ j => exact ih j h

/-- Between two delimiters, bytes without one: the delimiter stands at the two ends and nowhere else. -/
theorem getElem?_delimited_iff {m : List Byte} (hm : delim ∉ m) (i : Nat) :
    ([delim] ++ m ++ [delim])[i]? = some delim ↔ i = 0 ∨ i = m.length + 1 := by
  cases i with
  | zero => exact iff_of_true rfl (.inl rfl)
  | succ j =>
    change (m ++ [delim])[j]? = some delim ↔ _
    rcases lt_trichotomy j m.length with hlt | rfl | hgt
    · rw [List.getElem?_append_left hlt]
      exact iff_of_false (fun h => hm (List.mem_of_getElem? h)) (by omega)
    · exact iff_of_true List.getElem?_concat_length (.inr rfl)
    · rw [List.getElem?_eq_none (by rw [List.length_append, List.length_singleton]; exact hgt)]
      exact iff_of_false nofun (by omega)

/-! ### The lengths (spec/41_frame_codec.md R132) -/

/-- The bytes that escaping doubles. -/
def isEscaped (x : Byte) : Bool := x == delim || x == esc

theorem escapeByte_length (x : Byte) : (escapeByte x).length = 1 + (if isEscaped x then 1 else 0) := by
  by_cases hd : x = delim
  · subst hd; rfl
  by_cases he : x = esc
  · subst he; rfl
  simp [escapeByte_plain hd he, isEscaped, hd, he]

theorem escape_length (b : List Byte) : (escape b).length = b.length + (b.filter isEscaped).length := by
  induction b with
  | nil => rfl
  | cons x b ih =>
    rw [escape_cons, List.length_append, escapeByte_length, ih, List.filter_cons, List.length_cons]
    split
    · rw [List.length_cons]
      omega
    · omega

theorem encodeFrame_length (b : List Byte) : (encodeFrame b).length = (escape b).length + 2 := by
  simp only [encodeFrame, List.length_append, List.length_singleton]
  omega

/-! ### Unescaping (spec/41_frame_codec.md R134) -/

theorem unescape_delimPair (t : List Byte) : unescape (esc :: escDelim :: t) = (unescape t).map (delim :: ·) := by
  rw [unescape, if_pos rfl, if_pos rfl]

theorem unescape_escPair (t : List Byte) : unescape (esc :: escEsc :: t) = (unescape t).map (esc :: ·) := by
  rw [unescape, if_pos rfl, if_neg (by decide), if_pos rfl]

theorem unescape_badEscape {y : Byte} (hd : y ≠ escDelim) (he : y ≠ escEsc) (t : List Byte) :
    unescape (esc :: y :: t) = .error .decBadEscape := by
  rw [unescape, if_pos rfl, if_neg hd, if_neg he]

theorem unescape_truncated : unescape [esc] = .error .decTruncatedEscape := rfl

theorem unescape_delim (t : List Byte) : unescape (delim :: t) = .error .decBareDelimiter := by
  cases t with
  | nil => rfl
  | cons y t => rw [unescape, if_neg (by decide), if_pos rfl]

theorem unescape_plain {x : Byte} (hd : x ≠ delim) (he : x ≠ esc) (t : List Byte) :
    unescape (x :: t) = (unescape t).map (x :: ·) := by
  cases t with
  | nil => exact (if_neg he).trans (if_neg hd)
  | cons y t => rw [unescape, if_neg he, if_neg hd]

/-- The bytes that stand for `x` are read back as `x`. -/
theorem unescape_escapeByte_append (x : Byte) (f : List Byte) :
    unescape (escapeByte x ++ f) = (unescape f).map (x :: ·) := by
  by_cases hd : x = delim
  · rw [hd, escapeByte_delim]
    exact unescape_delimPair f
  by_cases he : x = esc
  · rw [he, escapeByte_esc]
    exact unescape_escPair f
  rw [escapeByte_plain hd he]
  exact unescape_plain hd he f

/-- What a list of bytes can begin with. -/
theorem escaped_cases (f : List Byte) :
    f = [] ∨ (∃ x f', f = escapeByte x ++ f') ∨ ∃ e, unescape f = .error e := by
  rcases f with _ | ⟨x, t⟩
  · exact .inl rfl
  refine .inr ?_
  by_cases hd : x = delim
  · subst hd
    exact .inr ⟨_, unescape_delim t⟩
  by_cases he : x = esc
  · subst he
    rcases t with _ | ⟨y, t⟩
    · exact .inr ⟨_, unescape_truncated⟩
    by_cases hyd : y = escDelim
    · exact .inl ⟨delim, t, by rw [hyd, escapeByte_delim]; rfl⟩
    by_cases hye : y = escEsc
    · exact .inl ⟨esc, t, by rw [hye, escapeByte_esc]; rfl⟩
    exact .inr ⟨_, unescape_badEscape hyd hye t⟩
  exact .inl ⟨x, t, by rw [escapeByte_plain hd he]; rfl⟩

/-- What `unescape` accepts is empty, or begins with the bytes that stand for the first byte of the result. -/
theorem unescape_ok_cases {f b : List Byte} (h : unescape f = .ok b) :
    (f = [] ∧ b = []) ∨ ∃ x f' b', f = escapeByte x ++ f' ∧ unescape f' = .ok b' ∧ b = x :: b' := by
  rcases escaped_cases f with rfl | ⟨x, f', rfl⟩ | ⟨e, he⟩
  · cases h
    exact .inl ⟨rfl, rfl⟩
  · rw [unescape_escapeByte_append] at h
    cases hf : unescape f' with
    | error e => rw [hf] at h; cases h
    | ok b' =>
      rw [hf] at h
      cases h
      exact .inr ⟨x, f', b', rfl, hf, rfl⟩
  · cases he.symm.trans h

theorem unescape_escape (b : List Byte) : unescape (escape b) = .ok b := by
  induction b with
  | nil => rfl
  | cons x b ih => rw [escape_cons, unescape_escapeByte_append, ih]; rfl

theorem escape_of_unescape_ok {f b : List Byte} (h : unescape f = .ok b) : escape b = f := by
  induction b generalizing f with
  | nil =>
    rcases unescape_ok_cases h with ⟨rfl, -⟩ | ⟨x, f', b', -, -, hb⟩
    · rfl
    · cases hb
  | cons x b ih =>
    rcases unescape_ok_cases h with ⟨-, hb⟩ | ⟨x', f', b', rfl, hf, hb⟩
    · cases hb
    · cases hb
      rw [escape_cons, ih hf]

/-! ### Decoding a frame (spec/41_frame_codec.md R135) -/

theorem decodeFrame_delimited (b : List Byte) : decodeFrame ([delim] ++ b ++ [delim]) = unescape b := by
  have hframed : ¬(([delim] ++ b ++ [delim]).length < 2 ∨ ([delim] ++ b ++ [delim]).head? ≠ some delim ∨
      ([delim] ++ b ++ [delim]).getLast? ≠ some delim) := by
    rintro (hlen | hhead | hlast)
    · simp only [List.length_append, List.length_singleton] at hlen
      omega
    · exact hhead rfl
    · exact hlast List.getLast?_concat
  rw [decodeFrame, if_neg hframed, List.append_assoc, List.singleton_append, List.drop_one, List.tail_cons,
    List.dropLast_concat]

theorem decodeFrame_missing {f : List Byte}
    (h : f.length < 2 ∨ f[0]? ≠ some delim ∨ f[f.length - 1]? ≠ some delim) :
    decodeFrame f = .error .decMissingDelimiter := by
  rw [← List.head?_eq_getElem?, ← List.getLast?_eq_getElem?] at h
  exact if_pos h

/-! ### The end of a decoding operation (spec/41_frame_codec.md R142, R143) -/

section Decoded
variable {s : State} {d : Except OpErr (List Byte)}

theorem takeDecoded_error {e : OpErr} (h : d = .error e) : s.takeDecoded d = s.refuse e := by
  subst h
  rfl

theorem takeDecoded_overflow {r : List Byte} (h : d = .ok r) (hlong : cmdMax s.cfg < r.length) :
    s.takeDecoded d = s.refuse .bufferOverflow := by
  subst h
  exact if_pos hlong

theorem takeDecoded_fits {r : List Byte} (h : d = .ok r) (hfits : r.length ≤ cmdMax s.cfg) :
    s.takeDecoded d = { s.performed with cmd := r } := by
  subst h
  exact if_neg (Nat.not_lt.mpr hfits)

variable {i : Instr} (hidle : s.isIdle = true) (hexec : exec i s = s.whenIdle (.next (s.takeDecoded d)))
include hidle hexec

/-- The three outcomes that `FRM.UNESC` and `FRM.DEC` share. -/
theorem exec_decoding :
    (∀ e, d = .error e → exec i s = .next { s with operr := e, port := none }) ∧
    (∀ r, d = .ok r → cmdMax s.cfg < r.length → exec i s = .next { s with operr := .bufferOverflow, port := none }) ∧
    (∀ r, d = .ok r → r.length ≤ cmdMax s.cfg → exec i s = .next { s with cmd := r, operr := .none, port := none }) := by
  rw [hexec, whenIdle_idle hidle]
  exact ⟨fun _ h => congrArg _ (takeDecoded_error h), fun _ h hlong => congrArg _ (takeDecoded_overflow h hlong),
    fun _ h hfits => congrArg _ (takeDecoded_fits h hfits)⟩

end Decoded

/-! ### Sending the frame (spec/41_frame_codec.md R139) -/

section Sent
variable {s : State} {rest : List TxResult} (hidle : s.isIdle = true)
include hidle

theorem exec_txSend_ok (htx : s.tx = .ok :: rest) :
    exec .txSend s = .next { s.performed with tx := rest, history := s.history ++ [.tx s.frm .ok] } := by
  refine (whenIdle_idle hidle).trans ?_
  rw [txWrite_of_cons htx]
  rfl

theorem exec_txSend_failed (htx : s.tx = .failed :: rest) :
    exec .txSend s =
      .next { s.refuse .transportFail with tx := rest, history := s.history ++ [.tx s.frm .failed] } := by
  refine (whenIdle_idle hidle).trans ?_
  rw [txWrite_of_cons htx]
  rfl

end Sent

end Sys2Proof.Machine

section
open Sys2Proof Sys2Proof.Machine

/-- Settles O13: `unescape` reads back the bytes of each escaped byte, and accepts nothing else. -/
theorem unescapeInvertsEscape : Obligations.UnescapeInvertsEscape :=
  ⟨unescape_escape, fun b => (decodeFrame_delimited (escape b)).trans (unescape_escape b),
    fun _ _ => escape_of_unescape_ok⟩

/-- Settles O14: escaped bytes hold no delimiter, so the two that `encodeFrame` adds are the only ones. -/
theorem delimiterOnlyAtTheEnds : Obligations.DelimiterOnlyAtTheEnds := by
  refine ⟨escape_nil, (escape_singleton delim).trans escapeByte_delim, (escape_singleton esc).trans escapeByte_esc,
    fun x hd he => (escape_singleton x).trans (escapeByte_plain hd he), escape_append,
    fun b => ⟨rfl, fun i => ?_, delim_notMem_escape b, escape_esc_followed b⟩⟩
  rw [encodeFrame_length]
  exact getElem?_delimited_iff (delim_notMem_escape b) i

/-- Settles O15: escaping adds one byte for each byte that it escapes, at most one for every byte. -/
theorem escapedLength : Obligations.EscapedLength := by
  intro b
  have hbound := escape_length_le b
  refine ⟨escape_length b, ?_, ?_, fun _ => encodeFrame_fits⟩
  · exact (encodeFrame_length b).trans (congrArg (· + 2) (escape_length b))
  · rw [encodeFrame_length]
    omega

/-- Settles O16: the rows of the map, and what each operation does once the idle check has passed. -/
theorem frameOperationsFillFrm : Obligations.FrameOperationsFillFrm :=
  ⟨requestIs_frmEsc, requestIs_frmEnc, requestIs_frmRaw, requestIs_frmClr, requestIs_frmPut, fun _ hidle =>
    ⟨whenIdle_idle hidle, whenIdle_idle hidle, whenIdle_idle hidle, whenIdle_idle hidle, fun _ => whenIdle_idle hidle⟩⟩

/-- Settles O17: the decoder's equations, and the outcomes that its two operations share (`exec_decoding`). -/
theorem frameOperationsDecode : Obligations.FrameOperationsDecode := by
  refine ⟨requestIs_frmUnesc, requestIs_frmDec, rfl, unescape_delimPair, unescape_escPair,
    fun _ t hd he => unescape_badEscape hd he t, unescape_truncated, unescape_delim,
    fun _ t hd he => unescape_plain hd he t, fun _ => decodeFrame_missing, decodeFrame_delimited, fun s hidle => ?_⟩
  obtain ⟨hunescError, hunescLong, hunescFits⟩ := exec_decoding (i := .frmUnesc) hidle rfl
  obtain ⟨hdecError, hdecLong, hdecFits⟩ := exec_decoding (i := .frmDec) hidle rfl
  exact ⟨hunescError, hunescLong, hunescFits, hdecError, hdecLong, hdecFits⟩

/-- Settles O18: the transport's first answer is the write's result. -/
theorem txSendLogsTheFrame : Obligations.TxSendLogsTheFrame :=
  ⟨requestIs_txSend, fun _ hidle => ⟨fun _ => exec_txSend_ok hidle, fun _ => exec_txSend_failed hidle⟩⟩

end

/-! The Command Builder of spec/42_command_builder.md: what a patch, an increment and the sealing of the CRC slot do byte by
byte (R154 to R156, R159); the five operations that leave a sealed command as one operation with different commands
(`Builds`), the two that carry a size (R161, R162) as one command with different templates (`sizedCmd`); and the states in
which a sequencer step has no value (R158, spec/93_implementation_defined.md U1, U2; log 8). -/
namespace Sys2Proof.Machine

/-! ### A patch, byte by byte (spec/42_command_builder.md R159) -/

section Patch
variable {t w : List Byte} {o i k : Nat}

theorem patch_getElem?_inside (h : o ≤ t.length) (hk : k < w.length) : (patch t o w)[o + k]? = w[k]? := by
  have hlen : (t.take o).length = o := List.length_take_of_le h
  rw [patch, List.append_assoc, List.getElem?_append_right (by omega), hlen, Nat.add_sub_cancel_left,
    List.getElem?_append_left hk]

theorem patch_getElem?_outside (h : o + w.length ≤ t.length) (hi : i < o ∨ o + w.length ≤ i) :
    (patch t o w)[i]? = t[i]? := by
  have hlen : (t.take o).length = o := List.length_take_of_le (by omega)
  rcases hi with hi | hi
  · rw [patch, List.append_assoc, List.getElem?_append_left (by omega), List.getElem?_take_of_lt hi]
  · have hlen' : (t.take o ++ w).length = o + w.length := by rw [List.length_append, hlen]
    rw [patch, List.getElem?_append_right (by omega), hlen', List.getElem?_drop, Nat.add_sub_cancel' hi]

/-- Two adjacent bytes each plus one modulo 256, every other byte as it was (spec/42_command_builder.md R155). -/
theorem inc2_getElem? (h : o + 2 ≤ t.length) (i : Nat) :
    (inc2 t o)[i]? = t[i]?.map fun b => if i = o ∨ i = o + 1 then b + 1 else b := by
  by_cases hi : i = o ∨ i = o + 1
  · have hlt : i < t.length := by omega
    simp only [if_pos hi, List.getElem?_eq_getElem hlt, Option.map_some]
    rcases hi with rfl | rfl
    · exact (patch_getElem?_inside (k := 0) (by omega) (by simp)).trans (by simp [hlt])
    · exact (patch_getElem?_inside (k := 1) (by omega) (by simp)).trans (by simp [hlt])
  · simp only [if_neg hi, Option.map_id']
    exact patch_getElem?_outside h (by simp only [List.length_cons, List.length_nil]; omega)

end Patch

/-! ### The CRC slot (spec/42_command_builder.md R156, R159, R168) -/

/-- The last two bytes are the little-endian complemented CRC of the others. -/
def IsSealed (c : List Byte) : Prop := c.drop (c.length - 2) = le16 (fcs (c.take (c.length - 2)))

/-- A sealed command runs to the residue (spec/40_crc_engine.md R124). -/
theorem IsSealed.residue {c : List Byte} (h : IsSealed c) : crc16 0xFFFF c = 0xF0B8 := by
  rw [← List.take_append_drop (c.length - 2) c, h]
  exact sealedDataLeavesTheResidue _

section Seal
variable {t : List Byte} (h : 2 ≤ t.length)
include h

theorem sealCmd_eq : sealCmd t = payload t ++ le16 (fcs (payload t)) := by
  have hdrop : t.drop (t.length - slotLen + (le16 (fcs (payload t))).length) = [] :=
    List.drop_of_length_le (by simp only [slotLen, le16_length]; omega)
  rw [sealCmd, patch, hdrop, List.append_nil]
  rfl

theorem sealCmd_isSealed : IsSealed (sealCmd t) := by
  have hlen : (payload t).length = t.length - 2 := List.length_take_of_le (Nat.sub_le _ _)
  change _ = le16 (fcs (payload (sealCmd t)))
  rw [payload_sealCmd h, sealCmd_length t h, sealCmd_eq h, List.drop_left' hlen]

/-- Sealing a sealed command changes nothing: the slot is not part of the payload. -/
theorem sealCmd_sealCmd : sealCmd (sealCmd t) = sealCmd t := by
  rw [sealCmd_eq ((sealCmd_length t h).symm ▸ h), payload_sealCmd h, ← sealCmd_eq h]

theorem sealCmd_getElem? {i : Nat} (hi : i < t.length - 2) : (sealCmd t)[i]? = t[i]? :=
  patch_getElem?_outside (by simp only [slotLen, le16_length]; omega) (.inl hi)

end Seal

/-! ### The operations that leave a sealed command (spec/42_command_builder.md R156, R164 to R167) -/

/-- A build's end: the command built, or a refusal where the operands give none. -/
def State.buildOrRefuse (s : State) : Option (List Byte) → State
  | none => s.refuse .operandRange
  | some c => s.performed.build c

/-- The operation `i` in `s` builds the command `c`, where there is one. -/
def Builds (i : Instr) (s : State) (c : Option (List Byte)) : Prop := exec i s = s.whenIdle (.next (s.buildOrRefuse c))

theorem builds_cmdHello (g : Bool) (s : State) : Builds (.cmdHello g) s (some (helloCmd s.cfg g)) := rfl

theorem builds_cmdClose (s : State) : Builds .cmdClose s (some (closeCmd s.cfg)) := rfl

theorem builds_cmdOpen (p size : Word32) (s : State) :
    Builds (.cmdOpen p size) s ((posOf p).bind fun j => openCmd s.cfg j size) := by
  unfold Builds
  simp only [exec, execCmdOpen]
  cases (posOf p).bind fun j => openCmd s.cfg j size <;> rfl

theorem builds_cmdTrailer (p size : Word32) (s : State) :
    Builds (.cmdTrailer p size) s ((posOf p).bind fun j => trailerCmd s.cfg j size) := by
  unfold Builds
  simp only [exec, execCmdTrailer]
  cases (posOf p).bind fun j => trailerCmd s.cfg j size <;> rfl

theorem builds_cmdCrcpatch (s : State) :
    Builds .cmdCrcpatch s (if s.cmd.length < 2 then none else some (sealCmd s.cmd)) := by
  unfold Builds
  simp only [exec, execCmdCrcpatch]
  by_cases hshort : s.cmd.length < 2
  · rw [if_pos hshort, if_pos hshort]
    rfl
  · rw [if_neg hshort, if_neg hshort, ← payload_sealCmd (Nat.le_of_not_lt hshort)]
    rfl

section Builds
variable {s t : State} {i : Instr} {c : Option (List Byte)} (h : Builds i s c)
include h

theorem Builds.exec_none (hidle : s.isIdle = true) (hc : c = none) : exec i s = .next (s.refuse .operandRange) := by
  subst hc
  exact h.trans (whenIdle_idle hidle)

theorem Builds.exec_some (hidle : s.isIdle = true) {b : List Byte} (hc : c = some b) :
    exec i s = .next (s.performed.build b) := by
  subst hc
  exact h.trans (whenIdle_idle hidle)

/-- An operation that was performed has left what it builds. -/
theorem Builds.isSealed (hc : ∀ b, c = some b → IsSealed b) (hexec : exec i s = .next t) (hok : t.operr = .none) :
    IsSealed t.cmd := by
  rcases whenIdle_next (h.symm.trans hexec) with ⟨-, hbody⟩ | ⟨-, rfl⟩
  · cases hbody
    cases c with
    | none => cases hok
    | some b => exact hc b rfl
  · cases hok

end Builds

/-- Incremented or not, the Hello template keeps its length. -/
theorem helloTemplate_length (c : Params) (g : Bool) :
    (if g then inc2 (helloT c) (genOff c) else helloT c).length = 37 := by
  have hgen := genOff_lt c
  have hlen := helloT_length c
  cases g with
  | false => exact hlen
  | true => exact (inc2_length (by omega)).trans hlen

theorem helloCmd_isSealed (c : Params) (g : Bool) : IsSealed (helloCmd c g) :=
  sealCmd_isSealed ((by decide : 2 ≤ 37).trans_eq (helloTemplate_length c g).symm)

theorem helloCmd_getElem? (c : Params) (g : Bool) {i : Nat} (hi : i < 35) :
    (helloCmd c g)[i]? = (helloT c)[i]?.map fun b => if g = true ∧ (i = genOff c ∨ i = genOff c + 1) then b + 1 else b := by
  have hgen := genOff_lt c
  have hlen := helloTemplate_length c g
  rw [helloCmd, sealCmd_getElem? (by omega) (by omega)]
  cases g with
  | false => simp only [Bool.false_eq_true, false_and, if_false, Option.map_id']
  | true =>
    have hfits : genOff c + 2 ≤ (helloT c).length := (helloT_length c).symm ▸ (by omega)
    simp only [true_and, if_true, inc2_getElem? hfits]

theorem closeCmd_isSealed (c : Params) : IsSealed (closeCmd c) :=
  sealCmd_isSealed ((by decide : 2 ≤ 3).trans_eq (closeT_length c).symm)

/-! ### Commands that carry a size (spec/42_command_builder.md R158, R161, R162) -/

/-- The template `t` with `adj(p, S)` at the offset `o`, sealed. -/
def sizedCmd (t : List Byte) (o : Nat) (p : Pos) (size : Word32) : Option (List Byte) :=
  (adj p size).map fun v => sealCmd (patch t o (le32 v))

theorem openCmd_eq (c : Params) (p : Pos) (size : Word32) :
    openCmd c p size = sizedCmd (openT c p) (openSizeOff c p) p size := rfl

theorem trailerCmd_eq (c : Params) (p : Pos) (size : Word32) :
    trailerCmd c p size = sizedCmd (trailerT c p) (trailerSizeOff c p) p size := rfl

/-- What stands in the size field where `adj(p, S)` has a value. -/
def sizeField (p : Pos) (size : Word32) : Word32 := if p = 0 then size - 8 else size

theorem adj_some {p : Pos} {size : Word32} (h : p = 0 → 8 ≤ size.toNat) : adj p size = some (sizeField p size) := by
  by_cases hp : p = 0
  · rw [adj, sizeField, if_pos hp, if_pos hp]
    exact if_pos (h hp)
  · rw [adj, sizeField, if_neg hp, if_neg hp]

theorem adj_first_none {size : Word32} (h : size.toNat < 8) : adj 0 size = none :=
  (if_pos rfl).trans (if_neg (Nat.not_le.mpr h))

theorem posOf_some {p : Word32} {j : Pos} (h : p.toNat = j.val) : posOf p = some j := by
  rw [posOf, h]
  fin_cases j <;> rfl

theorem posOf_none {p : Word32} (h : 2 < p.toNat) : posOf p = none := by
  obtain ⟨n, hn⟩ := Nat.exists_eq_add_of_le' h
  rw [posOf, hn]
  rfl

/-- The refusals of `CMD.OPEN` and `CMD.TRAILER`: no position, or a first image below 8 bytes. -/
theorem sizedCmd_none {p size : Word32} (T : Pos → List Byte) (o : Pos → Nat)
    (h : 2 < p.toNat ∨ p.toNat = 0 ∧ size.toNat < 8) : ((posOf p).bind fun j => sizedCmd (T j) (o j) j size) = none := by
  rcases h with hp | ⟨hp, hsize⟩
  · rw [posOf_none hp, Option.bind_none]
  · rw [posOf_some (j := 0) hp, Option.bind_some, sizedCmd, adj_first_none hsize, Option.map_none]

theorem sizedCmd_some {p : Pos} {size : Word32} (t : List Byte) (o : Nat) (h : p = 0 → 8 ≤ size.toNat) :
    sizedCmd t o p size = some (sealCmd (patch t o (le32 (sizeField p size)))) := by
  rw [sizedCmd, adj_some h, Option.map_some]

/-- The bytes `b` are the template `t` with the size field `v` at the offset `o` and its own CRC in the slot. -/
structure IsSized (t : List Byte) (o : Nat) (v : Word32) (b : List Byte) : Prop where
  length : b.length = t.length
  field : ∀ k, k < 4 → b[o + k]? = (le32 v)[k]?
  others : ∀ i, i < t.length - 2 → i < o ∨ o + 4 ≤ i → b[i]? = t[i]?
  slot : b.drop (t.length - 2) = le16 (fcs (b.take (t.length - 2)))

section Sized
variable {t : List Byte} {o : Nat} (h : o + 4 ≤ t.length - 2)
include h

theorem sizedPatch_length (v : Word32) : (patch t o (le32 v)).length = t.length :=
  patch_length _ _ _ (h.trans (Nat.sub_le _ _))

theorem sealCmd_patch_isSized (v : Word32) : IsSized t o v (sealCmd (patch t o (le32 v))) := by
  have hpatch := sizedPatch_length h v
  have hlen : (sealCmd (patch t o (le32 v))).length = t.length := (sealCmd_length _ (by omega)).trans hpatch
  refine ⟨hlen, fun k hk => ?_, fun i hi hout => ?_, ?_⟩
  · rw [sealCmd_getElem? (by omega) (by omega)]
    exact patch_getElem?_inside (by omega) hk
  · rw [sealCmd_getElem? (by omega) (by omega)]
    exact patch_getElem?_outside (h.trans (Nat.sub_le _ _)) hout
  · have hsealed := sealCmd_isSealed (t := patch t o (le32 v)) (by omega)
    rwa [IsSealed, hlen] at hsealed

theorem sizedCmd_isSealed {p : Pos} {size : Word32} {b : List Byte} (hb : sizedCmd t o p size = some b) :
    IsSealed b := by
  obtain ⟨v, -, rfl⟩ := Option.map_eq_some_iff.mp hb
  have hpatch := sizedPatch_length h v
  exact sealCmd_isSealed (by omega)

end Sized

/-! ### The template ROM (spec/20_memory.md R53) -/

theorem exists_template (c : Params) {n : Nat} (h : n ≤ 7) : ∃ b, template c n = some b := by
  interval_cases n <;> exact ⟨_, rfl⟩

theorem template_none (c : Params) {n : Nat} (h : 7 < n) : template c n = none := by
  obtain ⟨k, rfl⟩ := Nat.exists_eq_add_of_le' h
  rfl

/-- The id that a position and a small offset name, without wrapping. -/
theorem templateId_toNat {p : Word32} {j : Pos} (h : p.toNat = j.val) {n : Nat} (hn : n < 8) :
    (p + BitVec.ofNat 32 n).toNat = j.val + n := by
  have hj := j.isLt
  rw [BitVec.toNat_add, BitVec.toNat_ofNat, h]
  omega

theorem template_open (c : Params) {p : Word32} {j : Pos} (h : p.toNat = j.val) :
    template c (p + 1).toNat = some (openT c j) := by
  have hid : (p + 1).toNat = j.val + 1 := templateId_toNat h (by decide)
  rw [hid]
  fin_cases j <;> rfl

theorem template_trailer (c : Params) {p : Word32} {j : Pos} (h : p.toNat = j.val) :
    template c (p + 4).toNat = some (trailerT c j) := by
  have hid : (p + 4).toNat = j.val + 4 := templateId_toNat h (by decide)
  rw [hid]
  fin_cases j <;> rfl

/-! ### The primitive operations, alone and in a program (spec/42_command_builder.md R152 to R157) -/

section Primitives
variable {s : State} (hidle : s.isIdle = true)
include hidle

theorem exec_cmdLoad_some {id : Word32} {b : List Byte} (h : template s.cfg id.toNat = some b) :
    exec (.cmdLoad id) s = .next { s.performed with cmd := b } := by
  refine (whenIdle_idle hidle).trans ?_
  rw [h]

theorem exec_cmdLoad_none {id : Word32} (h : template s.cfg id.toNat = none) :
    exec (.cmdLoad id) s = .next (s.refuse .operandRange) := by
  refine (whenIdle_idle hidle).trans ?_
  rw [h]

theorem exec_cmdPut32 {o : Word32} (h : o.toNat + 4 ≤ s.cmd.length) (v : Word32) :
    exec (.cmdPut32 o v) s = .next { s.performed with cmd := patch s.cmd o.toNat (le32 v) } :=
  (whenIdle_idle hidle).trans (if_neg (Nat.not_lt.mpr h))

theorem exec_cmdPut32_refused {o : Word32} (h : s.cmd.length < o.toNat + 4) (v : Word32) :
    exec (.cmdPut32 o v) s = .next (s.refuse .operandRange) :=
  (whenIdle_idle hidle).trans (if_pos h)

theorem exec_cmdInc2 {o : Word32} (h : o.toNat + 2 ≤ s.cmd.length) :
    exec (.cmdInc2 o) s = .next { s.performed with cmd := inc2 s.cmd o.toNat } :=
  (whenIdle_idle hidle).trans (if_neg (Nat.not_lt.mpr h))

theorem exec_cmdInc2_refused {o : Word32} (h : s.cmd.length < o.toNat + 2) :
    exec (.cmdInc2 o) s = .next (s.refuse .operandRange) :=
  (whenIdle_idle hidle).trans (if_pos h)

theorem exec_cmdCrcpatch (h : 2 ≤ s.cmd.length) : exec .cmdCrcpatch s = .next (s.performed.build (sealCmd s.cmd)) :=
  (builds_cmdCrcpatch s).exec_some hidle (if_neg (Nat.not_lt.mpr h))

variable (hport : s.port = none)
include hport

theorem execAll_cmdLoad {id : Word32} {b : List Byte} (h : template s.cfg id.toNat = some b) (rest : List Instr) :
    execAll (.cmdLoad id :: rest) s = execAll rest { s.performed with cmd := b } :=
  execAll_cons hport (exec_cmdLoad_some (s := s.present (.cmdLoad id)) hidle h) rest

theorem execAll_cmdPut32 {o : Word32} (h : o.toNat + 4 ≤ s.cmd.length) (v : Word32) (rest : List Instr) :
    execAll (.cmdPut32 o v :: rest) s = execAll rest { s.performed with cmd := patch s.cmd o.toNat (le32 v) } :=
  execAll_cons hport (exec_cmdPut32 (s := s.present (.cmdPut32 o v)) hidle h v) rest

theorem execAll_cmdCrcpatch (h : 2 ≤ s.cmd.length) :
    execAll [.cmdCrcpatch] s = .next (s.performed.build (sealCmd s.cmd)) :=
  execAll_cons hport (exec_present_cmdCrcpatch hidle h) []

/-- Close by its primitive operations (spec/42_command_builder.md R167). -/
theorem execAll_close : execAll [.cmdLoad 7, .cmdCrcpatch] s = .next (s.performed.build (closeCmd s.cfg)) := by
  have hlen : 2 ≤ (closeT s.cfg).length := (by decide : 2 ≤ 3).trans_eq (closeT_length s.cfg).symm
  exact (execAll_cmdLoad hidle hport rfl _).trans
    (execAll_cmdCrcpatch (s := { s.performed with cmd := closeT s.cfg }) hidle rfl hlen)

/-- A command with a size by its primitive operations (spec/42_command_builder.md R165, R166). -/
theorem execAll_sized {id v : Word32} {t : List Byte} {o : Nat} (ht : template s.cfg id.toNat = some t)
    (h : o + 4 ≤ t.length - 2) (ho : o < 2 ^ 32) :
    execAll [.cmdLoad id, .cmdPut32 (BitVec.ofNat 32 o) v, .cmdCrcpatch] s =
      .next (s.performed.build (sealCmd (patch t o (le32 v)))) := by
  have hoff : (BitVec.ofNat 32 o).toNat = o := (BitVec.toNat_ofNat o 32).trans (Nat.mod_eq_of_lt ho)
  have hlen := sizedPatch_length h v
  calc execAll [.cmdLoad id, .cmdPut32 (BitVec.ofNat 32 o) v, .cmdCrcpatch] s
      = execAll [.cmdPut32 (BitVec.ofNat 32 o) v, .cmdCrcpatch] { s.performed with cmd := t } :=
        execAll_cmdLoad hidle hport ht _
    _ = execAll [.cmdCrcpatch] { s.performed with cmd := patch t (BitVec.ofNat 32 o).toNat (le32 v) } :=
        execAll_cmdPut32 (s := { s.performed with cmd := t }) hidle rfl (by simp only [hoff]; omega) v _
    _ = execAll [.cmdCrcpatch] { s.performed with cmd := patch t o (le32 v) } := by rw [hoff]
    _ = .next (s.performed.build (sealCmd (patch t o (le32 v)))) :=
        execAll_cmdCrcpatch (s := { s.performed with cmd := patch t o (le32 v) }) hidle rfl (by simp only; omega)

end Primitives

/-- A build of a command of known length, field by field. -/
theorem performed_build_eq {s : State} {b : List Byte} {n : Nat} (h : b.length - 2 = n) :
    s.performed.build b = { s with cmd := b, crc := crc16 0xFFFF (b.take n), operr := .none, port := none } := by
  subst h
  rfl

/-! ### `CMD.OPEN` and `CMD.TRAILER` (spec/42_command_builder.md R165, R166) -/

section BuildsSized
variable {i : Instr} {s : State} {p size : Word32} {T : Pos → List Byte} {o : Pos → Nat}
  (h : Builds i s ((posOf p).bind fun j => sizedCmd (T j) (o j) j size)) (hidle : s.isIdle = true)
include h hidle

theorem Builds.sized_refused (hbad : 2 < p.toNat ∨ p.toNat = 0 ∧ size.toNat < 8) :
    exec i s = .next (s.refuse .operandRange) :=
  h.exec_none hidle (sizedCmd_none T o hbad)

/-- The command built is the sized one, and the three primitive operations build it as well. -/
theorem Builds.sized {j : Pos} (hj : p.toNat = j.val) (hsize : j = 0 → 8 ≤ size.toNat)
    (hfits : o j + 4 ≤ (T j).length - 2) {id : Word32} (hid : template s.cfg id.toNat = some (T j)) :
    (∃ b, exec i s = .next
        { s with cmd := b, crc := crc16 0xFFFF (b.take ((T j).length - 2)), operr := .none, port := none } ∧
      sizedCmd (T j) (o j) j size = some b ∧ IsSized (T j) (o j) (sizeField j size) b) ∧
    (o j < 2 ^ 32 →
      execAll [.cmdLoad id, .cmdPut32 (BitVec.ofNat 32 (o j)) (sizeField j size), .cmdCrcpatch] { s with port := none } =
        exec i s) := by
  have hcmd := sizedCmd_some (T j) (o j) hsize
  have hsized := sealCmd_patch_isSized hfits (sizeField j size)
  have hexec : exec i s = .next (s.performed.build (sealCmd (patch (T j) (o j) (le32 (sizeField j size))))) :=
    h.exec_some hidle (by rw [posOf_some hj, Option.bind_some, hcmd])
  refine ⟨⟨_, hexec.trans (congrArg _ (performed_build_eq ?_)), hcmd, hsized⟩, fun hoff => ?_⟩
  · rw [hsized.length]
  · exact (execAll_sized (s := { s with port := none }) hidle rfl hid hfits hoff).trans hexec.symm

end BuildsSized

/-! ### Where a sequencer step has no value (log 8) -/

section Undefined
variable {s : State}

theorem openTx_of_none {j : Pos} (h : openCmd s.cfg j (s.sizeLo j) = none) : s.openTx j = .fault .negativeSize := by
  rw [State.openTx, h]

theorem nextImg_none (h : s.img = 2) : s.nextImg = none := by
  rw [State.nextImg, h]
  rfl

theorem last_eq_false (h : s.img = 2) (hnimg : s.nimg.toNat ≠ 3) : s.last = false := by
  rw [State.last, h]
  exact beq_eq_false_iff_ne.mpr hnimg.symm

variable (hbusy : s.busy = true)
include hbusy

theorem exec_sOpenTxFirst_negative (hawait : s.await = false) (hseq : s.seq = .helloSent)
    (hsize : (s.sizeLo 0).toNat < 8) : exec .sOpenTxFirst s = .fault .negativeSize := by
  refine (whenSelected_selected ((selected_sOpenTxFirst s).mpr ⟨hbusy, hseq, hawait⟩)).trans (openTx_of_none ?_)
  rw [openCmd, adj_first_none hsize, Option.map_none]

theorem exec_sTrailerTx_negative (hawait : s.await = false) (hseq : s.seq = .imageOpen) (himg : s.img = 0)
    (hsize : (s.sizeLo 0).toNat < 8) : exec .sTrailerTx s = .fault .negativeSize := by
  refine (whenSelected_selected ((selected_sTrailerTx s).mpr ⟨hbusy, hseq, hawait⟩)).trans ?_
  rw [himg, trailerCmd, adj_first_none hsize, Option.map_none]

theorem exec_sOpenTxNext_beyond (hawait : s.await = false) (hseq : s.seq = .imageAcked) (himg : s.img = 2)
    (hnimg : s.nimg.toNat ≠ 3) : exec .sOpenTxNext s = .fault .noSuchImage := by
  have hsel := (selected_sOpenTxNext s).mpr ⟨hbusy, hseq, hawait, last_eq_false himg hnimg⟩
  refine (whenSelected_selected hsel).trans ?_
  rw [nextImg_none himg]

theorem exec_sOpenAckNext_beyond (hawait : s.await = true) (hseq : s.seq = .imageAcked) (himg : s.img = 2) :
    exec .sOpenAckNext s = .fault .noSuchImage := by
  refine (whenSelected_selected ((selected_sOpenAckNext s).mpr ⟨hbusy, hseq, hawait⟩)).trans ?_
  rw [nextImg_none himg]

theorem exec_sChunk_beyond (hawait : s.await = false) (hseq : s.seq = .imageStreaming)
    (hoff : (s.sizeLo s.img).toNat < s.off.toNat) : exec .sChunk s = .fault .offsetBeyondSize :=
  (whenSelected_selected ((selected_sChunk s).mpr ⟨hbusy, hseq, hawait⟩)).trans (if_pos hoff)

/-- Fewer than 8 bytes are left, so the chunk is the final one and has no length without the last 8 bytes. -/
theorem exec_sChunk_negative (hawait : s.await = false) (hseq : s.seq = .imageStreaming) (himg : s.img = 0)
    (hoff : s.off.toNat ≤ (s.sizeLo 0).toNat) (hleft : (s.sizeLo 0).toNat - s.off.toNat < 8) :
    exec .sChunk s = .fault .negativeLength := by
  rw [← himg] at hoff hleft
  have hlen : s.chunkLen < trailerAdj := (Nat.min_le_right _ _).trans_lt hleft
  have hpart : s.chunkLen ≠ chunk := (hlen.trans (by decide)).ne
  refine (whenSelected_selected ((selected_sChunk s).mpr ⟨hbusy, hseq, hawait⟩)).trans ?_
  exact (if_neg (Nat.not_lt.mpr hoff)).trans ((if_neg hpart).trans (if_pos ⟨himg, hlen⟩))

theorem runSequencer_noStep (h : ∀ i, decodeSelector s.selector ≠ .ok i) :
    s.runSequencer = .fault .noStepSelected := by
  rw [State.runSequencer, if_pos hbusy]
  split
  · exact absurd ‹_› (h _)
  · rfl

theorem step_noStep (hport : s.port = none) (hhost : s.host = [])
    (h : ∀ i, decodeSelector s.selector ≠ .ok i) : step s = .fault .noStepSelected := by
  rw [step_turn (by simp only [State.resetNow, hhost]), arrive_of_no_input hhost]
  simp only [State.turn, hport]
  exact runSequencer_noStep hbusy h

end Undefined

end Sys2Proof.Machine

section
open Sys2Proof Sys2Proof.Machine

/-- Settles O20: the four bytes are patched in, where they lie inside the command. -/
theorem put32StoresLittleEndian : Obligations.Put32StoresLittleEndian := by
  refine ⟨requestIs_cmdPut32, fun s o v hidle => ⟨fun h => exec_cmdPut32_refused hidle h v, fun h => ?_⟩⟩
  have hbyte (k : Nat) (hk : k < 4) : (patch s.cmd o.toNat (le32 v))[o.toNat + k]? = (le32 v)[k]? :=
    patch_getElem?_inside (by omega) hk
  exact ⟨_, exec_cmdPut32 hidle h v, patch_length _ _ _ h, hbyte 0 (by decide), hbyte 1 (by decide),
    hbyte 2 (by decide), hbyte 3 (by decide), fun i hi => patch_getElem?_outside h hi⟩

/-- Settles O21: `inc2_getElem?` says what becomes of every byte. -/
theorem inc2IncrementsTwoBytes : Obligations.Inc2IncrementsTwoBytes := by
  refine ⟨requestIs_cmdInc2, fun s o hidle => ⟨exec_cmdInc2_refused hidle, fun h => ?_⟩⟩
  refine ⟨_, exec_cmdInc2 hidle h, inc2_length h, fun i hi => ?_, fun i hi => ?_⟩
  · simp only [inc2_getElem? h, if_pos hi]
  · have hout : ¬(i = o.toNat ∨ i = o.toNat + 1) := by omega
    simp only [inc2_getElem? h, if_neg hout, Option.map_id']

/-- Settles O22: what is written is the sealed command, and sealing it again changes nothing (`sealCmd_sealCmd`). -/
theorem crcpatchSealsTheCommand : Obligations.CrcpatchSealsTheCommand := by
  refine ⟨requestIs_cmdCrcpatch, fun s hidle => ⟨fun h => (builds_cmdCrcpatch s).exec_none hidle (if_pos h), fun h => ?_⟩⟩
  intro body raw t
  have hcmd : t.cmd = sealCmd s.cmd := (sealCmd_eq h).symm
  have ht : s.performed.build (sealCmd s.cmd) = t := by
    rw [State.build, payload_sealCmd h, ← hcmd]
    rfl
  have hagain : t.performed.build (sealCmd t.cmd) = t := by
    rw [hcmd, sealCmd_sealCmd h]
    exact ht
  have hlen : 2 ≤ t.cmd.length := by rw [hcmd, sealCmd_length _ h]; exact h
  exact ⟨(exec_cmdCrcpatch hidle h).trans (congrArg _ ht),
    (exec_cmdCrcpatch (s := t) hidle hlen).trans (congrArg _ hagain)⟩

/-- Settles O23: both are builds; the bytes come from the template by `inc2_getElem?` and `sealCmd_getElem?`. -/
theorem helloAndCloseAreBuilt : Obligations.HelloAndCloseAreBuilt := by
  refine ⟨requestIs_cmdHello, requestIs_cmdClose, fun s hidle => ⟨fun g => ?_, ?_⟩⟩
  · have hexec : exec (.cmdHello g) s = .next (s.performed.build (helloCmd s.cfg g)) :=
      (builds_cmdHello g s).exec_some hidle rfl
    have hslot := helloCmd_isSealed s.cfg g
    rw [IsSealed, helloCmd_length] at hslot
    refine ⟨_, hexec.trans (congrArg _ (performed_build_eq ?_)), rfl, helloCmd_length s.cfg g,
      fun i hi => helloCmd_getElem? s.cfg g hi, hslot, ?_⟩
    · rw [helloCmd_length]
    · rw [hexec]
      refine Eq.trans ?_ (execAll_helloManual (s := { s with port := none }) hidle rfl g)
      cases g <;> rfl
  · have hexec : exec .cmdClose s = .next (s.performed.build (closeCmd s.cfg)) :=
      (builds_cmdClose s).exec_some hidle rfl
    have hslot := closeCmd_isSealed s.cfg
    rw [IsSealed, closeCmd_length] at hslot
    refine ⟨_, hexec.trans (congrArg _ (performed_build_eq ?_)), rfl, closeCmd_length s.cfg, ?_, hslot, ?_⟩
    · rw [closeCmd_length]
    · have hlen := closeT_length s.cfg
      exact sealCmd_getElem? (by omega) (by omega)
    · rw [hexec]
      exact execAll_close (s := { s with port := none }) hidle rfl

/-- Settles O24: the open template as a command that carries a size (`Builds.sized`). -/
theorem openIsBuilt : Obligations.OpenIsBuilt := by
  refine ⟨requestIs_cmdOpen, fun s p size hidle => ?_⟩
  have hbuilds := builds_cmdOpen p size s
  simp only [openCmd_eq] at hbuilds
  refine ⟨hbuilds.sized_refused hidle, fun j hj hsize => ?_⟩
  obtain ⟨⟨out, hexec, hcmd, hlen, hfield, hothers, hslot⟩, hprimitives⟩ :=
    hbuilds.sized hidle hj hsize (openSizeOff_fits s.cfg j) (template_open s.cfg hj)
  exact ⟨⟨out, hexec, hcmd, hlen, hfield, hothers, hslot⟩, hprimitives⟩

/-- Settles O25: the trailer's template as a command that carries a size (`Builds.sized`). -/
theorem trailerIsBuilt : Obligations.TrailerIsBuilt := by
  refine ⟨requestIs_cmdTrailer, fun s p size hidle => ?_⟩
  have hbuilds := builds_cmdTrailer p size s
  simp only [trailerCmd_eq] at hbuilds
  refine ⟨hbuilds.sized_refused hidle, fun j hj hsize => ?_⟩
  obtain ⟨⟨out, hexec, hcmd, hlen, hfield, hothers, hslot⟩, hprimitives⟩ :=
    hbuilds.sized hidle hj hsize (trailerSizeOff_fits s.cfg j) (template_trailer s.cfg hj)
  exact ⟨⟨out, hexec, hcmd, hlen, hfield, hothers, hslot⟩, hprimitives⟩

/-- Settles O26: each of the five builds a sealed command, and a sealed command runs to the residue. -/
theorem builtCommandsAreSealed : Obligations.BuiltCommandsAreSealed := by
  intro i s t hi hexec hok
  suffices h : IsSealed t.cmd from ⟨h, h.residue⟩
  rcases hi with ⟨g, rfl⟩ | ⟨p, v, rfl⟩ | ⟨p, v, rfl⟩ | rfl | rfl
  · refine (builds_cmdHello g s).isSealed (fun b hb => ?_) hexec hok
    cases hb
    exact helloCmd_isSealed s.cfg g
  · refine (builds_cmdOpen p v s).isSealed (fun b hb => ?_) hexec hok
    obtain ⟨j, -, hb⟩ := Option.bind_eq_some_iff.mp hb
    rw [openCmd_eq] at hb
    exact sizedCmd_isSealed (openSizeOff_fits s.cfg j) hb
  · refine (builds_cmdTrailer p v s).isSealed (fun b hb => ?_) hexec hok
    obtain ⟨j, -, hb⟩ := Option.bind_eq_some_iff.mp hb
    rw [trailerCmd_eq] at hb
    exact sizedCmd_isSealed (trailerSizeOff_fits s.cfg j) hb
  · refine (builds_cmdClose s).isSealed (fun b hb => ?_) hexec hok
    cases hb
    exact closeCmd_isSealed s.cfg
  · refine (builds_cmdCrcpatch s).isSealed (fun b hb => ?_) hexec hok
    split at hb <;> cases hb
    exact sealCmd_isSealed (Nat.le_of_not_lt ‹_›)

/-- Settles O19: what each operation does once the idle check has passed, and which ids have a template. -/
theorem commandBufferFilled : Obligations.CommandBufferFilled :=
  ⟨requestIs_cmdClr, requestIs_cmdPut, requestIs_cmdLoad, fun s hidle =>
    ⟨whenIdle_idle hidle, fun _ => whenIdle_idle hidle, fun _ _ => exec_cmdLoad_some hidle,
      fun _ h => exec_cmdLoad_none hidle (template_none s.cfg h), fun _ => exists_template s.cfg⟩⟩

/-- Settles O46: the steps by the registers that select them, and the selector without a step. -/
theorem undefinedStepsAreStuck : Obligations.UndefinedStepsAreStuck := fun _ hbusy =>
  ⟨exec_sOpenTxFirst_negative hbusy, exec_sTrailerTx_negative hbusy, exec_sOpenTxNext_beyond hbusy,
    exec_sOpenAckNext_beyond hbusy, exec_sChunk_beyond hbusy, exec_sChunk_negative hbusy, step_noStep hbusy⟩

end

/-! The Response Validator of spec/43_response_validator.md: the equations of `validate` under the conditions of R180,
which leave no burst out (`validate_cases`); the three bytes and the length that the verdict depends on (R181);
and what the validator's operations answer on the idle block (R182 to R186). -/
namespace Sys2Proof.Machine

/-! ### The verdicts (spec/43_response_validator.md R180) -/

/-- A burst that passes the first two checks: long enough, with a delimiter at both ends. -/
structure WellFramed (f : List Byte) : Prop where
  length : 4 ≤ f.length
  first : f[0]? = some delim
  last : f[f.length - 1]? = some delim

section Verdicts
variable {f : List Byte} {k got : Byte}

theorem validate_tooShort (h : f.length < 4) : validate f k = (.tooShort, 0) := if_pos h

theorem validate_missingFraming (hlen : 4 ≤ f.length) (h : f[0]? ≠ some delim ∨ f[f.length - 1]? ≠ some delim) :
    validate f k = (.missingFraming, 0) := by
  rw [← List.head?_eq_getElem?, ← List.getLast?_eq_getElem?] at h
  exact (if_neg (Nat.not_lt.mpr hlen)).trans (if_pos h)

/-- Past the first two checks, the second byte alone decides. -/
theorem WellFramed.validate_eq (h : WellFramed f) (hgot : f[1]? = some got) :
    validate f k = if got ≠ k then (.unexpectedCode, got) else (.ok, 0) := by
  obtain ⟨hlen, hfirst, hlast⟩ := h
  have hends : ¬(f.head? ≠ some delim ∨ f.getLast? ≠ some delim) := by
    rw [List.head?_eq_getElem?, List.getLast?_eq_getElem?, hfirst, hlast]
    simp
  have hcode : f.getD 1 0 = got := by rw [List.getD_eq_getElem?_getD, hgot, Option.getD_some]
  rw [← hcode]
  exact (if_neg (Nat.not_lt.mpr hlen)).trans (if_neg hends)

/-- Every burst meets the condition of one verdict and gets that verdict. -/
theorem validate_cases (f : List Byte) (k : Byte) :
    (f.length < 4 ∧ validate f k = (.tooShort, 0)) ∨
    (4 ≤ f.length ∧ (f[0]? ≠ some delim ∨ f[f.length - 1]? ≠ some delim) ∧ validate f k = (.missingFraming, 0)) ∨
    (WellFramed f ∧ ∃ got, f[1]? = some got ∧ got ≠ k ∧ validate f k = (.unexpectedCode, got)) ∨
    (WellFramed f ∧ f[1]? = some k ∧ validate f k = (.ok, 0)) := by
  rcases Nat.lt_or_ge f.length 4 with hshort | hlen
  · exact .inl ⟨hshort, validate_tooShort hshort⟩
  by_cases hends : f[0]? ≠ some delim ∨ f[f.length - 1]? ≠ some delim
  · exact .inr (.inl ⟨hlen, hends, validate_missingFraming hlen hends⟩)
  simp only [not_or, not_not] at hends
  have hframed : WellFramed f := ⟨hlen, hends.1, hends.2⟩
  obtain ⟨got, hgot⟩ : ∃ got, f[1]? = some got := ⟨f[1], List.getElem?_eq_getElem (by omega)⟩
  rcases ne_or_eq got k with hne | rfl
  · exact .inr (.inr (.inl ⟨hframed, got, hgot, hne, (hframed.validate_eq hgot).trans (if_pos hne)⟩))
  · exact .inr (.inr (.inr ⟨hframed, hgot, (hframed.validate_eq hgot).trans (if_neg (not_not.mpr rfl))⟩))

/-- The verdict depends on the length, the first, the second and the last byte (R181). -/
theorem validate_congr {g : List Byte} (hlen : f.length = g.length) (hfirst : f.head? = g.head?)
    (hcode : f[1]? = g[1]?) (hlast : f.getLast? = g.getLast?) : validate f k = validate g k := by
  simp only [validate, hlen, hfirst, hlast, List.getD_eq_getElem?_getD, hcode]

end Verdicts

/-! ### The buffer `ACK` (spec/43_response_validator.md R182 to R184) -/

/-- A read that the transport answers with an error (spec/20_memory.md R58). -/
theorem rxRead_of_error {s : State} {rest : List RxResult} (h : s.rx = .error :: rest) :
    s.rxRead = some (.error, { s with rx := rest, history := s.history ++ [.rx .error] }) := by
  simp only [State.rxRead, h]

section Received
variable {s : State} {rest : List RxResult} (hidle : s.isIdle = true)
include hidle

theorem exec_ackRecv_burst {r : List Byte} (hrx : s.rx = .burst r :: rest) (hr : r.length ≤ ackBufLen s.cfg) :
    exec .ackRecv s = .next { s.performed with rx := rest, ack := r, history := s.history ++ [.rx (.burst r)] } := by
  refine (whenIdle_idle hidle).trans ?_
  rw [rxRead_of_burst hrx hr]
  rfl

theorem exec_ackRecv_error (hrx : s.rx = .error :: rest) :
    exec .ackRecv s = .next { s.refuse .transportFail with rx := rest, history := s.history ++ [.rx .error] } := by
  refine (whenIdle_idle hidle).trans ?_
  rw [rxRead_of_error hrx]
  rfl

end Received

/-! ### The register `LASTACK` (spec/10_state.md R35) -/

/-- Fields put side by side have the value of a mixed-radix numeral. -/
theorem toNat_append_eq_add {m n : Nat} (x : BitVec m) (y : BitVec n) :
    (x ++ y).toNat = 2 ^ n * x.toNat + y.toNat := by
  rw [BitVec.toNat_append, ← Nat.shiftLeft_add_eq_or_of_lt y.isLt, Nat.shiftLeft_eq, Nat.mul_comm]

theorem lastAckWord_toNat (l : LastAck) :
    (lastAckWord l).toNat = (ackKindCode l.kind).toNat + 256 * l.got.toNat + 65536 * l.expected.toNat := by
  simp only [lastAckWord, toNat_append_eq_add, BitVec.toNat_ofNat]
  omega

end Sys2Proof.Machine

section
open Sys2Proof Sys2Proof.Machine

/-- Settles O30: the two bursts agree in all that the verdict depends on (`validate_congr`). -/
theorem validatorIgnoresTheBody : Obligations.ValidatorIgnoresTheBody := by
  intro first second last body body' k hbody
  have hlen : ([first, second] ++ body ++ [last]).length = ([first, second] ++ body' ++ [last]).length := by
    simp only [List.length_append, hbody]
  exact validate_congr hlen rfl rfl (List.getLast?_concat.trans List.getLast?_concat.symm)

/-- Settles O29: a burst meets the condition of its own verdict (`validate_cases`), which excludes the other three. -/
theorem validatorVerdicts : Obligations.ValidatorVerdicts := by
  intro f k
  rcases validate_cases f k with ⟨hshort, hv⟩ | ⟨hlen, hends, hv⟩ | ⟨⟨hlen, hfirst, hlast⟩, got, hgot, hne, hv⟩ |
    ⟨⟨hlen, hfirst, hlast⟩, hgot, hv⟩
  case inl => simp [hv, hshort]
  case inr.inl => grind [delim]
  case inr.inr.inl =>
    rw [delim] at hfirst hlast
    simp [hv, Nat.not_lt.mpr hlen, hlen, hfirst, hlast, hgot, hne]
  case inr.inr.inr =>
    rw [delim] at hfirst hlast
    simp [hv, Nat.not_lt.mpr hlen, hlen, hfirst, hlast, hgot]

/-- Settles O31: the rows of the map, and what each operation does once the idle check has passed. -/
theorem ackBufferFilled : Obligations.AckBufferFilled :=
  ⟨requestIs_ackClr, requestIs_ackPut, requestIs_ackRecv, fun _ hidle =>
    ⟨whenIdle_idle hidle, fun _ => whenIdle_idle hidle, fun _ _ => exec_ackRecv_burst hidle,
      fun _ => exec_ackRecv_error hidle⟩⟩

/-- Settles O32: the verdict is recorded (`State.record`), and `RES` is the word of the new `LASTACK`. -/
theorem ackCheckRecordsTheVerdict : Obligations.AckCheckRecordsTheVerdict := by
  refine ⟨requestIs_ackCheck, fun s k hidle => ?_⟩
  intro v
  exact ⟨lastAckWord ⟨v.1, v.2, k⟩, whenIdle_idle hidle, lastAckWord_toNat ⟨v.1, v.2, k⟩⟩

end

/-! The Transfer Sequencer of spec/44_transfer_sequencer.md. First the history of a session (R209): each step adds to the
history what it adds to the events that the registers stand for, a block that is not idle leaves the session's plan alone
(`SessionStep`), and so a run that reaches `Done` has the whole plan behind it. -/
namespace Sys2Proof.Machine

/-! ### A block that is not idle (spec/30_encoding.md R84, spec/44_transfer_sequencer.md R210) -/

section NotIdle
variable {s t : State}

/-- Outside the idle block a request is a read or is refused with `Busy`. -/
theorem request_not_idle {i : Instr} (hreq : isRequest i = true) (hidle : s.isIdle = false) (h : exec i s = .next t) :
    t = { s with res := t.res, operr := t.operr, port := none } := by
  cases hread : isRead i with
  | false =>
    cases (exec_not_idle hreq hread hidle).symm.trans h
    rfl
  | true =>
    cases i with
    | regRd r =>
      simp only [exec, execRegRd] at h
      split at h <;> cases h <;> rfl
    | bufRd space index =>
      simp only [exec, execBufRd] at h
      split at h <;> cases h <;> rfl
    | _ => cases hread

/-- A step of a block that is not idle answers the port, or runs the selected step. -/
theorem step_not_idle (hidle : s.isIdle = false) (hr : s.resetNow = false) (h : step s = .next t) :
    t = { s.arrive with res := t.res, operr := t.operr, port := t.port } ∨
    ∃ i, s.arrive.selected = some i ∧ exec i s.arrive = .next t := by
  rcases step_cases h with
    ⟨hreset, -⟩ | ⟨-, w, i, -, hw, hi⟩ | ⟨-, w, e, -, -, rfl⟩ | ⟨-, -, hbusy, i, hsel, hi⟩ | ⟨-, -, -, rfl⟩
  · exact absurd (hr.symm.trans hreset) (by decide)
  · have ht := request_not_idle (isRequest_of_decodeRequest hw) ((arrive_isIdle s).trans hidle) hi
    exact .inl (by rw [ht])
  · exact .inl rfl
  · exact .inr ⟨i, by rw [arrive_selected, selected_busy hbusy, hsel]; rfl, hi⟩
  · exact .inl rfl

/-- A finished block selects no step, so it only answers the port. -/
theorem step_finished (h : Inv s) (hseq : s.seq = .done ∨ s.seq = .aborted) (hr : s.resetNow = false)
    (hstep : step s = .next t) : t = { s with res := t.res, operr := t.operr, port := t.port, host := t.host } := by
  have hbusy : s.busy = false := Bool.eq_false_iff.mpr fun hb => by
    obtain ⟨hdone, haborted⟩ := h.busyRuns hb
    exact hseq.elim hdone haborted
  rcases step_not_idle (not_idle_of_busy_or_finished (.inr hseq)) hr hstep with ht | ⟨i, hsel, -⟩
  · rw [arrive_frame] at ht
    rw [ht]
  · exact absurd ((arrive_busy s).symm.trans (busy_of_selected hsel)) (by rw [hbusy]; decide)

end NotIdle

/-! ### What no step of a session touches -/

/-- `t` holds what `s` holds in all that fixes a session's plan (the parameters, the configuration, the images) and in the
host's coming inputs. -/
def Untouched (s t : State) : Prop :=
  t = { t with cfg := s.cfg, gen2 := s.gen2, nimg := s.nimg, size := s.size, images := s.images, host := s.host }

namespace Untouched
variable {s t u : State} (h : Untouched s t)
include h

theorem trans (htu : Untouched t u) : Untouched s u := by
  unfold Untouched at *
  rw [h] at htu
  exact htu

theorem host : t.host = s.host := by rw [h]
theorem helloFrame_eq : helloFrame t = helloFrame s := by rw [h]; rfl
theorem openBytes_eq (p : Pos) : openBytes t p = openBytes s p := by rw [h]; rfl
theorem trailerBytes_eq (p : Pos) : trailerBytes t p = trailerBytes s p := by rw [h]; rfl
theorem chunkEvents_eq (p : Pos) (k : Nat) : chunkEvents t p k = chunkEvents s p k := by rw [h]; rfl
theorem dataEvents_eq (p : Pos) : dataEvents t p = dataEvents s p := by rw [h]; rfl
theorem imagesEvents_eq (n : Nat) : imagesEvents t n = imagesEvents s n := by rw [h]; rfl
theorem sessionEvents_eq : sessionEvents t = sessionEvents s := by rw [h]; rfl

end Untouched

/-! ### The data events as they are sent (spec/44_transfer_sequencer.md R202, R203) -/

theorem chunkEvents_succ (s : State) (p : Pos) (k : Nat) :
    chunkEvents s p (k + 1) = chunkEvents s p k ++ [s.imgRead p (chunk * k) chunk] := by
  simp [chunkEvents, List.range_succ]

/-- The images below `p + 1` are those below `p` and then `p`. -/
theorem imagesEvents_succ (s : State) (p : Pos) :
    imagesEvents s (p.val + 1) = imagesEvents s p.val ++ imageEvents s p := by
  have hpos : ∀ p : Pos, (List.finRange 3).filter (·.val < p.val + 1) =
      (List.finRange 3).filter (·.val < p.val) ++ [p] := by decide
  rw [imagesEvents, imagesEvents, hpos p, List.flatMap_append, List.flatMap_singleton]

/-- Where less than a chunk is left, all full chunks have been sent. -/
theorem off_div_of_final {s : State} (h : Inv s) (hsel : s.selected = some .sChunk) (hpart : s.chunkLen ≠ chunk) :
    s.off.toNat / chunk = fullChunks s s.img := by
  obtain ⟨hwhole, hle⟩ := h.off_whole hsel
  simp only [State.chunkLen, fullChunks, chunk] at *
  omega

/-- What is left, without the first image's last 8 bytes, is the final data event. -/
theorem finalChunk_eq {s : State} (h : Inv s) (hsel : s.selected = some .sChunk) (hpart : s.chunkLen ≠ chunk) :
    (s.imgRead s.img s.off.toNat s.chunkLen).take (if s.img = 0 then s.chunkLen - trailerAdj else s.chunkLen) =
      finalEvent s s.img := by
  refine Option.some.inj ((nextPayload_finalChunk h hsel hpart).symm.trans ?_)
  rw [nextPayload_sChunk hsel, off_div_of_final h hsel hpart, dataEvents_final]

/-! ### The events that a transition adds (spec/44_transfer_sequencer.md R197 to R206, R209) -/

namespace Untouched
variable {s t : State} (h : Untouched s t)
include h

theorem events_helloSent (hs : s.seq = .start) (hsa : s.await = false) (ht : t.seq = .start) (hta : t.await = true) :
    eventsSoFar t = eventsSoFar s ++ [.sent (helloFrame s)] := by
  simp [eventsSoFar, hs, hsa, ht, hta, h.helloFrame_eq]

theorem events_helloAcked (hs : s.seq = .start) (hsa : s.await = true) (ht : t.seq = .helloSent) (hta : t.await = false) :
    eventsSoFar t = eventsSoFar s ++ [.read] := by
  simp [eventsSoFar, hs, hsa, ht, hta, h.helloFrame_eq]

theorem events_firstOpenSent (hs : s.seq = .helloSent) (hsa : s.await = false) (ht : t.seq = .helloSent)
    (hta : t.await = true) :
    eventsSoFar t = eventsSoFar s ++ [.sent (encodeFrame (openBytes s 0))] := by
  simp [eventsSoFar, hs, hsa, ht, hta, h.helloFrame_eq, h.openBytes_eq]

theorem events_firstOpenAcked (hs : s.seq = .helloSent) (hsa : s.await = true) (ht : t.seq = .imageOpen)
    (himg : t.img = 0) : eventsSoFar t = eventsSoFar s ++ [.read] := by
  simp [eventsSoFar, hs, hsa, ht, himg, h.helloFrame_eq, h.openBytes_eq, imagesEvents]

theorem events_trailerSent (hs : s.seq = .imageOpen) (ht : t.seq = .imageStreaming) (hta : t.await = false)
    (himg : t.img = s.img) (hoff : t.off = 0) :
    eventsSoFar t = eventsSoFar s ++ [.sent (trailerBytes s s.img)] := by
  simp [eventsSoFar, hs, ht, hta, himg, hoff, h.helloFrame_eq, h.openBytes_eq, h.trailerBytes_eq, h.imagesEvents_eq,
    chunkEvents]

theorem events_chunkSent (hs : s.seq = .imageStreaming) (hsa : s.await = false) (ht : t.seq = .imageStreaming)
    (hta : t.await = false) (himg : t.img = s.img) (hoff : t.off.toNat / chunk = s.off.toNat / chunk + 1) :
    eventsSoFar t = eventsSoFar s ++ [.sent (s.imgRead s.img (chunk * (s.off.toNat / chunk)) chunk)] := by
  simp [eventsSoFar, hs, hsa, ht, hta, himg, hoff, h.helloFrame_eq, h.openBytes_eq, h.trailerBytes_eq, h.imagesEvents_eq,
    h.chunkEvents_eq, chunkEvents_succ]

theorem events_finalSent (hs : s.seq = .imageStreaming) (hsa : s.await = false) (ht : t.seq = .imageStreaming)
    (hta : t.await = true) (himg : t.img = s.img) (hoff : s.off.toNat / chunk = fullChunks s s.img) :
    eventsSoFar t = eventsSoFar s ++ [.sent (finalEvent s s.img)] := by
  have hdata : dataEvents s s.img = chunkEvents s s.img (fullChunks s s.img) ++ [finalEvent s s.img] := rfl
  simp [eventsSoFar, hs, hsa, ht, hta, himg, hoff, h.helloFrame_eq, h.openBytes_eq, h.trailerBytes_eq, h.imagesEvents_eq,
    h.dataEvents_eq, hdata]

theorem events_dataAcked (hs : s.seq = .imageStreaming) (hsa : s.await = true) (ht : t.seq = .imageAcked)
    (hta : t.await = false) (himg : t.img = s.img) : eventsSoFar t = eventsSoFar s ++ [.read] := by
  simp [eventsSoFar, hs, hsa, ht, hta, himg, h.helloFrame_eq, h.imagesEvents_eq, imagesEvents_succ, imageEvents]

theorem events_nextOpenSent {j : Pos} (hs : s.seq = .imageAcked) (hsa : s.await = false) (ht : t.seq = .imageAcked)
    (hta : t.await = true) (himg : t.img = s.img) (hj : t.nextImg = some j) :
    eventsSoFar t = eventsSoFar s ++ [.sent (encodeFrame (openBytes s j))] := by
  simp [eventsSoFar, hs, hsa, ht, hta, himg, hj, h.helloFrame_eq, h.imagesEvents_eq, h.openBytes_eq]

theorem events_nextOpenAcked {j : Pos} (hs : s.seq = .imageAcked) (hsa : s.await = true) (hj : s.nextImg = some j)
    (ht : t.seq = .imageOpen) (himg : t.img = j) : eventsSoFar t = eventsSoFar s ++ [.read] := by
  simp [eventsSoFar, hs, hsa, hj, ht, himg, nextImg_some hj, h.helloFrame_eq, h.imagesEvents_eq, h.openBytes_eq]

theorem events_closeSent (hs : s.seq = .imageAcked) (hsa : s.await = false) (hlast : s.img.val + 1 = s.nimg.toNat)
    (ht : t.seq = .closing) :
    eventsSoFar t = eventsSoFar s ++ [.sent (encodeFrame (closeCmd s.cfg))] := by
  have hplan : eventsSoFar t = sessionEvents s := by rw [eventsSoFar, ht]; exact h.sessionEvents_eq
  rw [hplan]
  simp [eventsSoFar, hs, hsa, sessionEvents, hlast]

theorem events_finished (hs : s.seq = .closing) (ht : t.seq = .done) : eventsSoFar t = eventsSoFar s := by
  simp [eventsSoFar, hs, ht, h.sessionEvents_eq]

end Untouched

/-! ### Each step of a session keeps the history at the events of the registers -/

theorem accepted_is_sent (b : List Byte) : Event.is (.tx b .ok) (.sent b) := rfl

theorem burst_is_read (r : List Byte) : Event.is (.rx (.burst r)) .read := True.intro

/-- `t` has added to the history of `s` the events that its registers stand for beyond those of `s`. -/
def LogsEvents (s t : State) : Prop :=
  ∃ l es, t.history = s.history ++ l ∧ List.Forall₂ Event.is l es ∧ eventsSoFar t = eventsSoFar s ++ es

theorem LogsEvents.of_silent {s t : State} (hhist : t.history = s.history) (hevents : eventsSoFar t = eventsSoFar s) :
    LogsEvents s t :=
  ⟨[], [], hhist.trans (List.append_nil _).symm, .nil, hevents.trans (List.append_nil _).symm⟩

theorem LogsEvents.of_event {s t : State} {e : Event} {x : SessionEvent} (hhist : t.history = s.history ++ [e])
    (he : e.is x) (hevents : eventsSoFar t = eventsSoFar s ++ [x]) : LogsEvents s t :=
  ⟨[e], [x], hhist, .cons he .nil, hevents⟩

/-- The history since some point stays at the events of the registers. -/
theorem LogsEvents.extend {s t : State} {before h : List Event} (hlog : LogsEvents s t)
    (hhist : s.history = before ++ h) (hs : List.Forall₂ Event.is h (eventsSoFar s)) :
    ∃ h', t.history = before ++ h' ∧ List.Forall₂ Event.is h' (eventsSoFar t) := by
  obtain ⟨l, es, ht, hl, hes⟩ := hlog
  refine ⟨h ++ l, by rw [ht, hhist, List.append_assoc], ?_⟩
  rw [hes]
  exact List.rel_append hs hl

/-- What a step of a session leaves: the plan as it was, a session that runs or has ended, and, unless it has ended in an
abort, a history that follows the plan. -/
structure SessionStep (s t : State) : Prop where
  untouched : Untouched s t
  notIdle : t.isIdle = false
  logs : t.seq ≠ .aborted → LogsEvents s t

/-- What follows a transport call moves the sequencer's own registers only. -/
def MovesOn (s t : State) : Prop :=
  t = { s with seq := t.seq, img := t.img, off := t.off, await := t.await, expect := t.expect }

namespace MovesOn
variable {s t : State} (h : MovesOn s t)
include h

theorem untouched : Untouched s t := by rw [h]; rfl
theorem history : t.history = s.history := by rw [h]
theorem busy : t.busy = s.busy := by rw [h]

end MovesOn

theorem isIdle_of_busy {s : State} (h : s.busy = true) : s.isIdle = false := not_idle_of_busy_or_finished (.inl h)

section SessionSteps
variable {s t : State}

theorem SessionStep.of_silent (hbusy : s.busy = true) : SessionStep s s :=
  ⟨rfl, isIdle_of_busy hbusy, fun _ => .of_silent rfl rfl⟩

theorem SessionStep.of_abort {u : State} (h : Untouched s u) (c : Cause) : SessionStep s (u.abort c) :=
  ⟨h.trans (u := u.abort c) rfl, not_idle_of_busy_or_finished (.inr (.inr rfl)), fun hne => absurd rfl hne⟩

/-- A sending step adds its payload, where the registers stand for it afterwards. -/
theorem transmit_sessionStep (hbusy : s.busy = true) {before : State} {b : List Byte} {after : State → State}
    (h : s.transmit before b after = .next t) (same : SameSession s before) (hkept : Untouched s before)
    (hhist : before.history = s.history) (hmoves : ∀ u, MovesOn u (after u))
    (hevents : ∀ u, SameSession s u → Untouched s (after u) → eventsSoFar (after u) = eventsSoFar s ++ [.sent b]) :
    SessionStep s t := by
  have hwritten (rest : List TxResult) (r : TxResult) :
      Untouched s { before with tx := rest, history := before.history ++ [.tx b r] } := hkept.trans (t := before) rfl
  rcases transmit_next h with ⟨-, rfl⟩ | ⟨rest, -, rfl⟩ | ⟨rest, -, rfl⟩
  · exact .of_silent hbusy
  · have hsame : SameSession s { before with tx := rest, history := before.history ++ [.tx b .ok] } := same.trans rfl
    have hmoved := hmoves { before with tx := rest, history := before.history ++ [.tx b .ok] }
    have huntouched := (hwritten rest .ok).trans hmoved.untouched
    refine ⟨huntouched, isIdle_of_busy (hmoved.busy.trans (hsame.busy.trans hbusy)), fun _ => ?_⟩
    exact .of_event (hmoved.history.trans (congrArg (· ++ [_]) hhist)) (accepted_is_sent b) (hevents _ hsame huntouched)
  · exact .of_abort (hwritten rest .failed) _

theorem sendFramed_sessionStep (hbusy : s.busy = true) {c : List Byte} {after : State → State}
    (h : s.sendFramed c after = .next t) (hmoves : ∀ u, MovesOn u (after u))
    (hevents : ∀ u, SameSession s u → Untouched s (after u) →
      eventsSoFar (after u) = eventsSoFar s ++ [.sent (encodeFrame c)]) : SessionStep s t :=
  transmit_sessionStep hbusy h rfl rfl rfl hmoves hevents

theorem sendUnframed_sessionStep (hbusy : s.busy = true) {c : List Byte} {after : State → State}
    (h : s.sendUnframed c after = .next t) (hmoves : ∀ u, MovesOn u (after u))
    (hevents : ∀ u, SameSession s u → Untouched s (after u) → eventsSoFar (after u) = eventsSoFar s ++ [.sent c]) :
    SessionStep s t :=
  transmit_sessionStep hbusy h rfl rfl rfl hmoves hevents

/-- An awaiting step adds one burst. -/
theorem awaitAck_sessionStep (hbusy : s.busy = true) {k : Byte} {after : State → State}
    (h : s.awaitAck k after = .next t) (hmoves : ∀ u, MovesOn u (after u))
    (hevents : ∀ u, SameSession s u → Untouched s (after u) → eventsSoFar (after u) = eventsSoFar s ++ [.read]) :
    SessionStep s t := by
  rcases awaitAck_next h with ⟨-, rfl⟩ | ⟨u, hu, rfl⟩ | ⟨r, u, hu, -, -, rfl⟩ | ⟨r, u, hu, -, rfl⟩
  · exact .of_silent hbusy
  · obtain ⟨rest, -, rfl⟩ := rxRead_error hu
    have hread : Untouched s { s with rx := rest, history := s.history ++ [.rx .error] } := rfl
    exact .of_abort hread _
  · obtain ⟨d, rest, -, -, hu⟩ := rxRead_burst hu
    have hread : Untouched s (u.record (validate r k) k) := by rw [hu]; rfl
    exact .of_abort hread _
  · have hmoved := hmoves (u.record (validate r k) k)
    obtain ⟨d, rest, -, -, hu⟩ := rxRead_burst hu
    have hread : Untouched s (u.record (validate r k) k) := by rw [hu]; rfl
    have hsame : SameSession s (u.record (validate r k) k) := by rw [hu]; rfl
    have hhist : (u.record (validate r k) k).history = s.history ++ [.rx (.burst r)] := by rw [hu]; rfl
    have huntouched := hread.trans hmoved.untouched
    refine ⟨huntouched, isIdle_of_busy (hmoved.busy.trans (hsame.busy.trans hbusy)), fun _ => ?_⟩
    exact .of_event (hmoved.history.trans hhist) (burst_is_read r) (hevents _ hsame huntouched)

theorem openTx_sessionStep (hbusy : s.busy = true) {j : Pos} (h : s.openTx j = .next t)
    (hevents : ∀ u, SameSession s u → Untouched s (u.expectAck ackOpen) →
      eventsSoFar (u.expectAck ackOpen) = eventsSoFar s ++ [.sent (encodeFrame (openBytes s j))]) : SessionStep s t := by
  unfold State.openTx at h
  split at h
  · cases h
  · rw [openBytes_of_some ‹_›] at hevents
    exact sendFramed_sessionStep hbusy h (fun _ => rfl) hevents

theorem sHelloTx_sessionStep (h : execSHelloTx s = .next t) : SessionStep s t := by
  obtain ⟨hsel, h⟩ := whenSelected_next h
  obtain ⟨hbusy, hseq, hawait⟩ := (selected_sHelloTx s).mp hsel
  exact sendFramed_sessionStep hbusy h (fun _ => rfl) fun _ same hu =>
    hu.events_helloSent hseq hawait (same.seq.trans hseq) rfl

theorem sHelloAck_sessionStep (h : execSHelloAck s = .next t) : SessionStep s t := by
  obtain ⟨hsel, h⟩ := whenSelected_next h
  obtain ⟨hbusy, hseq, hawait⟩ := (selected_sHelloAck s).mp hsel
  exact awaitAck_sessionStep hbusy h (fun _ => rfl) fun _ _ hu => hu.events_helloAcked hseq hawait rfl rfl

theorem sOpenTxFirst_sessionStep (h : execSOpenTxFirst s = .next t) : SessionStep s t := by
  obtain ⟨hsel, h⟩ := whenSelected_next h
  obtain ⟨hbusy, hseq, hawait⟩ := (selected_sOpenTxFirst s).mp hsel
  exact openTx_sessionStep hbusy h fun _ same hu => hu.events_firstOpenSent hseq hawait (same.seq.trans hseq) rfl

theorem sOpenAckFirst_sessionStep (h : execSOpenAckFirst s = .next t) : SessionStep s t := by
  obtain ⟨hsel, h⟩ := whenSelected_next h
  obtain ⟨hbusy, hseq, hawait⟩ := (selected_sOpenAckFirst s).mp hsel
  exact awaitAck_sessionStep hbusy h (fun _ => rfl) fun _ _ hu => hu.events_firstOpenAcked hseq hawait rfl rfl

theorem sOpenTxNext_sessionStep (h : execSOpenTxNext s = .next t) : SessionStep s t := by
  obtain ⟨hsel, h⟩ := whenSelected_next h
  obtain ⟨hbusy, hseq, hawait, -⟩ := (selected_sOpenTxNext s).mp hsel
  split at h
  · cases h
  · rename_i j hj
    refine openTx_sessionStep hbusy h fun u same hu => ?_
    have hnext : (u.expectAck ackOpen).nextImg = some j := by rw [← hj, same]; rfl
    exact hu.events_nextOpenSent hseq hawait (same.seq.trans hseq) rfl same.img hnext

theorem sOpenAckNext_sessionStep (h : execSOpenAckNext s = .next t) : SessionStep s t := by
  obtain ⟨hsel, h⟩ := whenSelected_next h
  obtain ⟨hbusy, hseq, hawait⟩ := (selected_sOpenAckNext s).mp hsel
  split at h
  · cases h
  · exact awaitAck_sessionStep hbusy h (fun _ => rfl) fun _ _ hu => hu.events_nextOpenAcked hseq hawait ‹_› rfl rfl

theorem sTrailerTx_sessionStep (h : execSTrailerTx s = .next t) : SessionStep s t := by
  obtain ⟨hsel, h⟩ := whenSelected_next h
  obtain ⟨hbusy, hseq, hawait⟩ := (selected_sTrailerTx s).mp hsel
  split at h
  · cases h
  · rename_i c hc
    refine sendUnframed_sessionStep hbusy h (fun _ => rfl) fun _ same hu => ?_
    rw [← trailerBytes_of_some hc]
    exact hu.events_trailerSent hseq rfl (same.await.trans hawait) same.img rfl

/-- `OFF` counts whole chunks, so it names the data event that is sent. -/
theorem sChunk_sessionStep (hInv : Inv s) (h : execSChunk s = .next t) : SessionStep s t := by
  obtain ⟨hsel, h⟩ := whenSelected_next h
  obtain ⟨hbusy, hseq, hawait⟩ := (selected_sChunk s).mp hsel
  simp only at h
  split at h
  · cases h
  split at h
  · rename_i hfull
    obtain ⟨hwhole, hle⟩ := hInv.off_whole hsel
    have hfits : s.off.toNat + chunk ≤ (s.sizeLo s.img).toNat := by
      simp only [State.chunkLen] at hfull
      omega
    refine transmit_sessionStep hbusy h rfl rfl rfl (fun _ => rfl) fun u same hu => ?_
    have hoff : (u.off + BitVec.ofNat 32 chunk).toNat / chunk = s.off.toNat / chunk + 1 := by
      rw [same.off, off_add_toNat hfits (BitVec.isLt _), Nat.add_div_right _ (by decide)]
    rw [hfull, hu.events_chunkSent hseq hawait (same.seq.trans hseq) (same.await.trans hawait) same.img hoff, hwhole]
  split at h
  · cases h
  · rename_i hpart _
    rw [finalChunk_eq hInv hsel hpart] at h
    refine transmit_sessionStep hbusy h rfl rfl rfl (fun _ => rfl) fun u same hu => ?_
    exact hu.events_finalSent hseq hawait (same.seq.trans hseq) rfl same.img (off_div_of_final hInv hsel hpart)

theorem sDataAck_sessionStep (h : execSDataAck s = .next t) : SessionStep s t := by
  obtain ⟨hsel, h⟩ := whenSelected_next h
  obtain ⟨hbusy, hseq, hawait⟩ := (selected_sDataAck s).mp hsel
  exact awaitAck_sessionStep hbusy h (fun _ => rfl) fun _ same hu => hu.events_dataAcked hseq hawait rfl rfl same.img

theorem sCloseTx_sessionStep (h : execSCloseTx s = .next t) : SessionStep s t := by
  obtain ⟨hsel, h⟩ := whenSelected_next h
  obtain ⟨hbusy, hseq, hawait, hlast⟩ := (selected_sCloseTx s).mp hsel
  exact sendFramed_sessionStep hbusy h (fun _ => rfl) fun _ _ hu =>
    hu.events_closeSent hseq hawait (beq_iff_eq.mp hlast) rfl

theorem sFinish_sessionStep (h : execSFinish s = .next t) : SessionStep s t := by
  obtain ⟨hsel, h⟩ := whenSelected_next h
  obtain ⟨-, hseq, -⟩ := (selected_sFinish s).mp hsel
  cases h
  have hkept : Untouched s { s with seq := .done, done := true, busy := false } := rfl
  exact ⟨hkept, not_idle_of_busy_or_finished (.inr (.inl rfl)), fun _ => .of_silent rfl (hkept.events_finished hseq rfl)⟩

theorem isRequest_of_decodeSelector {sel : Selector} {i : Instr} (h : decodeSelector sel = .ok i) :
    isRequest i = false := by
  unfold decodeSelector at h
  split at h <;> cases h <;> rfl

/-- Every step that the registers select. -/
theorem selected_sessionStep (hInv : Inv s) {i : Instr} (hsel : s.selected = some i) (h : exec i s = .next t) :
    SessionStep s t := by
  have hstep := isRequest_of_decodeSelector (decodeSelector_of_selected hsel)
  cases i with
  | sHelloTx => exact sHelloTx_sessionStep h
  | sHelloAck => exact sHelloAck_sessionStep h
  | sOpenTxFirst => exact sOpenTxFirst_sessionStep h
  | sOpenTxNext => exact sOpenTxNext_sessionStep h
  | sOpenAckFirst => exact sOpenAckFirst_sessionStep h
  | sOpenAckNext => exact sOpenAckNext_sessionStep h
  | sTrailerTx => exact sTrailerTx_sessionStep h
  | sChunk => exact sChunk_sessionStep hInv h
  | sDataAck => exact sDataAck_sessionStep h
  | sCloseTx => exact sCloseTx_sessionStep h
  | sFinish => exact sFinish_sessionStep h
  | _ => cases hstep

/-- A step of a block that is not idle, after the host's input. -/
theorem step_sessionStep (hInv : Inv s) (hidle : s.isIdle = false) (hr : s.resetNow = false) (h : step s = .next t) :
    SessionStep s.arrive t := by
  rcases step_not_idle hidle hr h with ht | ⟨i, hsel, hi⟩
  · have hkept : Untouched s.arrive t := by rw [ht]; rfl
    have hsame : t.isIdle = s.arrive.isIdle := by rw [ht]; rfl
    have hevents : eventsSoFar t = eventsSoFar s.arrive := by rw [ht]; rfl
    exact ⟨hkept, hsame.trans ((arrive_isIdle s).trans hidle), fun _ => .of_silent (by rw [ht]) hevents⟩
  · exact selected_sessionStep hInv.arrive hsel hi

end SessionSteps

/-! ### What the host's input leaves of a session -/

section Arrived
variable (s : State)

theorem arrive_history : s.arrive.history = s.history := by rw [arrive_frame]
theorem arrive_eventsSoFar : eventsSoFar s.arrive = eventsSoFar s := by rw [arrive_frame]; rfl
theorem arrive_sessionEvents : sessionEvents s.arrive = sessionEvents s := by rw [arrive_frame]; rfl

theorem arrive_host_suffix : s.arrive.host <:+ s.host := by
  unfold State.arrive
  split
  · simp [*]
  · split <;> simp [*]
  · exact List.suffix_rfl

end Arrived

theorem NoReset.resetNow {s : State} (h : NoReset s) : s.resetNow = false := by
  unfold State.resetNow
  split
  · exact absurd rfl (h .reset (by simp [*]))
  · rfl

/-! ### A run of a session (spec/44_transfer_sequencer.md R209) -/

/-- `s` stands in the session that began in `s₀`: no reset is to come, the plan is the same, and, unless the session has
ended in an abort, the history since then is what the registers stand for. -/
structure InSession (s₀ s : State) : Prop where
  inv : Inv s
  notIdle : s.isIdle = false
  noReset : NoReset s
  plan : sessionEvents s = sessionEvents s₀
  log : s.seq ≠ .aborted → ∃ h, s.history = s₀.history ++ h ∧ List.Forall₂ Event.is h (eventsSoFar s)

theorem InSession.begin {s : State} (h : Inv s) (hbusy : s.busy = true) (hseq : s.seq = .start)
    (hawait : s.await = false) (hreset : NoReset s) : InSession s s := by
  refine ⟨h, isIdle_of_busy hbusy, hreset, rfl, fun _ => ⟨[], (List.append_nil _).symm, ?_⟩⟩
  simp [eventsSoFar, hseq, hawait]

theorem InSession.step {s₀ s t : State} (h : InSession s₀ s) (hstep : step s = .next t) : InSession s₀ t := by
  have hr := h.noReset.resetNow
  obtain ⟨huntouched, hidle, hlogs⟩ := step_sessionStep h.inv h.notIdle hr hstep
  have hhost : t.host <:+ s.host := huntouched.host ▸ arrive_host_suffix s
  have hplan := huntouched.sessionEvents_eq.trans (arrive_sessionEvents s)
  refine ⟨(step_keeps h.inv).of_next hstep, hidle, fun x hx => h.noReset x (hhost.subset hx), hplan.trans h.plan,
    fun haborted => ?_⟩
  have hs : s.seq ≠ .aborted := fun hs => haborted (by rw [step_finished h.inv (.inr hs) hr hstep]; exact hs)
  obtain ⟨log, hhist, hevents⟩ := h.log hs
  exact (hlogs haborted).extend ((arrive_history s).trans hhist) ((arrive_eventsSoFar s).symm ▸ hevents)

theorem InSession.run {s₀ s t : State} (k : Nat) (h : InSession s₀ s) (hrun : runFor k s = .next t) :
    InSession s₀ t := by
  induction k generalizing s with
  | zero => cases hrun; exact h
  | succ k ih =>
    obtain ⟨u, hu, -⟩ := step_keeps h.inv
    rw [runFor_succ hu] at hrun
    exact ih (h.step hu) hrun

/-! ### How many events a session has (spec/44_transfer_sequencer.md R209) -/

section Counts
variable (s : State)

theorem payloads_append (xs ys : List SessionEvent) : payloads (xs ++ ys) = payloads xs ++ payloads ys :=
  List.filterMap_append

theorem payloads_map_sent (bs : List (List Byte)) : payloads (bs.map .sent) = bs := by
  simp [payloads, List.filterMap_map]

theorem dataEvents_length (p : Pos) : (dataEvents s p).length = (s.sizeLo p).toNat / 262144 + 1 := by
  simp [dataEvents, fullChunks, chunk]

theorem payloads_imageEvents_length (p : Pos) :
    (payloads (imageEvents s p)).length = 3 + (s.sizeLo p).toNat / 262144 := by
  rw [imageEvents, payloads_append, payloads_append, payloads_map_sent, List.length_append, List.length_append,
    dataEvents_length]
  simp [payloads]
  omega

theorem payloads_imagesEvents_length (n : Nat) :
    (payloads (imagesEvents s n)).length =
      (((List.finRange 3).filter (·.val < n)).map fun p => 3 + (s.sizeLo p).toNat / 262144).sum := by
  rw [imagesEvents, payloads, List.filterMap_flatMap, List.length_flatMap]
  exact congrArg List.sum (List.map_congr_left fun p _ => payloads_imageEvents_length s p)

theorem payloads_sessionEvents_length :
    (payloads (sessionEvents s)).length =
      2 + (((List.finRange 3).filter (·.val < s.nimg.toNat)).map fun p => 3 + (s.sizeLo p).toNat / 262144).sum := by
  rw [sessionEvents, payloads_append, payloads_append, List.length_append, List.length_append,
    payloads_imagesEvents_length]
  simp [payloads]
  omega

theorem count_read_imageEvents (p : Pos) : (imageEvents s p).count .read = 2 := by
  have hdata : ((dataEvents s p).map SessionEvent.sent).count .read = 0 := List.count_eq_zero.mpr (by simp)
  simp [imageEvents, List.count_append, hdata]

/-- There are as many positions below `n` as images, for every number that `NIMG` holds. -/
theorem positions_length : ∀ n : BitVec 2, ((List.finRange 3).filter (·.val < n.toNat)).length = n.toNat := by decide

theorem count_read_sessionEvents : (sessionEvents s).count .read = 1 + 2 * s.nimg.toNat := by
  have heach : List.count .read ∘ imageEvents s = fun _ => 2 := funext (count_read_imageEvents s)
  have himages : (imagesEvents s s.nimg.toNat).count .read = s.nimg.toNat * 2 := by
    rw [imagesEvents, List.count_flatMap, heach, List.map_const', List.sum_replicate, positions_length, smul_eq_mul]
  simp [sessionEvents, List.count_append, himages]
  omega

end Counts

end Sys2Proof.Machine

section
open Sys2Proof Sys2Proof.Machine

/-- Settles O54: a finished block selects no step, and at the port it only reads or refuses. -/
theorem finishedBlockStays : Obligations.FinishedBlockStays :=
  fun _ _ h hseq hr hstep => step_finished h hseq hr hstep

/-- Settles O56: each step logs the events that its transition adds (`step_sessionStep`). -/
theorem stepExtendsTheSessionLog : Obligations.StepExtendsTheSessionLog := by
  intro s t before h hInv hbusy hr hhist hevents hstep hne
  have hlogs := (step_sessionStep hInv (isIdle_of_busy hbusy) hr hstep).logs hne
  exact hlogs.extend ((arrive_history s).trans hhist) ((arrive_eventsSoFar s).symm ▸ hevents)

/-- Settles O57: by induction on the steps the run stays in its session (`InSession.run`), and in `Done` the registers stand
for the whole plan. -/
theorem finishedSessionLog : Obligations.FinishedSessionLog := by
  intro k s t hInv hbusy hseq hawait hreset hrun hdone
  have ht := (InSession.begin hInv hbusy hseq hawait hreset).run k hrun
  obtain ⟨h, hhist, hevents⟩ := ht.log (by rw [hdone]; decide)
  have hplan : eventsSoFar t = sessionEvents t := by rw [eventsSoFar, hdone]
  exact ⟨h, hhist, ht.plan ▸ hplan ▸ hevents, payloads_sessionEvents_length s, count_read_sessionEvents s⟩

end

/-! The single operations and steps of spec/44_transfer_sequencer.md: the requests that start a session and reach the
registers (R191 to R195), and each step where the registers select it (R196 to R207). -/
namespace Sys2Proof.Machine

/-! ### The data of an image (spec/44_transfer_sequencer.md R202) -/

/-- Two reads that follow one another are one read. -/
theorem imgRead_append (s : State) (p : Pos) (off n m : Nat) :
    s.imgRead p off n ++ s.imgRead p (off + n) m = s.imgRead p off (n + m) := by
  simp only [imgRead_eq_map, List.range_add, List.map_append, List.map_map, Function.comp_def, Nat.add_assoc]

theorem chunkEvents_flatten (s : State) (p : Pos) (k : Nat) :
    (chunkEvents s p k).flatten = s.imgRead p 0 (chunk * k) := by
  induction k with
  | zero => simp [chunkEvents, imgRead_eq_map]
  | succ k ih =>
    have hread := imgRead_append s p 0 (chunk * k) chunk
    rw [Nat.zero_add] at hread
    rw [chunkEvents_succ, List.flatten_append, ih, List.flatten_singleton, hread, Nat.mul_succ]

/-- The data events together are the image, without the first one's last 8 bytes; those lie in the final event. -/
theorem dataEvents_flatten {s : State} {p : Pos} (h : p = 0 → 8 ≤ (s.sizeLo p).toNat % chunk) :
    (dataEvents s p).flatten = s.imgRead p 0 ((s.sizeLo p).toNat - if p = 0 then 8 else 0) := by
  have hlen : chunk * fullChunks s p + ((s.sizeLo p).toNat % chunk - if p = 0 then trailerAdj else 0) =
      (s.sizeLo p).toNat - if p = 0 then 8 else 0 := by
    have hdiv := Nat.div_add_mod (s.sizeLo p).toNat chunk
    by_cases hp : p = 0
    · have h8 := h hp
      simp only [if_pos hp, fullChunks, trailerAdj]
      omega
    · simp only [if_neg hp, fullChunks]
      omega
  have hread := imgRead_append s p 0 (chunk * fullChunks s p)
    ((s.sizeLo p).toNat % chunk - if p = 0 then trailerAdj else 0)
  rw [Nat.zero_add] at hread
  rw [dataEvents, List.flatten_append, List.flatten_singleton, chunkEvents_flatten, finalEvent, hread, hlen]

/-- The value of the size field, where it has one. -/
theorem adj_toNat {p : Pos} {size v : Word32} (h : p = 0 → 8 ≤ size.toNat) (hv : adj p size = some v) :
    v.toNat = size.toNat - if p = 0 then 8 else 0 := by
  cases (adj_some h).symm.trans hv
  by_cases hp : p = 0
  · rw [sizeField, if_pos hp, if_pos hp]
    exact BitVec.toNat_sub_of_le (h hp)
  · rw [sizeField, if_neg hp, if_neg hp, Nat.sub_zero]

/-! ### `SEQ.RUN` (spec/44_transfer_sequencer.md R191, R195) -/

/-- The five conditions of R195 on the numbers that the registers hold. -/
theorem configOk_iff_numbers (s : State) :
    s.configOk = true ↔
      (s.nimg.toNat = 2 ∨ s.nimg.toNat = 3) ∧ (s.nimg.toNat = 3 → s.gen2 = true) ∧
      (∀ i : Pos, i.val < s.nimg.toNat → s.size[i].toNat ≤ 0xFFFFFFFF) ∧
      8 ≤ s.size[0].toNat ∧ 8 ≤ s.size[0].toNat % 262144 := by
  have hle {n : Nat} : n ≤ 0xFFFFFFFF ↔ n < 2 ^ 32 := by omega
  have h2 : s.nimg = 2 ↔ s.nimg.toNat = 2 := BitVec.toNat_inj.symm
  have h3 : s.nimg = 3 ↔ s.nimg.toNat = 3 := BitVec.toNat_inj.symm
  constructor
  · intro hok
    have hsizes (i : Pos) (hi : i.val < s.nimg.toNat) := hle.mpr (size_lt_of_configOk hok hi)
    obtain ⟨-, hgen, -, h8, hmod⟩ := (configOk_iff s).mp hok
    exact ⟨nimg_of_configOk hok, fun hn => hgen (h3.mpr hn), hsizes, h8, hmod⟩
  · rintro ⟨hn, hgen, hsizes, h8, hmod⟩
    have hfirst : s.size[0].toNat < 2 ^ 32 := hle.mp (hsizes 0 (by simp only [Fin.val_zero]; omega))
    have hsecond : s.size[1].toNat < 2 ^ 32 := hle.mp (hsizes 1 (by simp only [Fin.val_one]; omega))
    have hthird (h : s.nimg.toNat = 3) : s.size[2].toNat < 2 ^ 32 := hle.mp (hsizes 2 (by simp only [Fin.val_two]; omega))
    exact (configOk_iff s).mpr ⟨hn.imp h2.mpr h3.mpr, fun h => hgen (h3.mp h),
      ⟨hfirst, hsecond, fun h => hthird (h3.mp h)⟩, h8, hmod⟩

section HostAccess
variable {s : State}

theorem exec_seqRun_ok (hidle : s.isIdle = true) (hok : s.configOk = true) :
    exec .seqRun s = .next { s.performed with busy := true } :=
  (whenIdle_idle hidle).trans (if_pos hok)

theorem exec_seqRun_bad (hidle : s.isIdle = true) (hbad : ¬s.configOk = true) :
    exec .seqRun s = .next (s.performed.abort .configError) :=
  (whenIdle_idle hidle).trans (if_neg hbad)

/-! ### `REG.WR` (spec/44_transfer_sequencer.md R193) -/

theorem exec_regWr {r v : Word32} {g : Reg} {t : State} (hidle : s.isIdle = true) (hr : regOf r = some g)
    (ht : (s.writeReg g v).map State.performed = some t) : exec (.regWr r v) s = .next t := by
  obtain ⟨u, hu, rfl⟩ := Option.map_eq_some_iff.mp ht
  refine (whenIdle_idle hidle).trans ?_
  rw [hr, Option.bind_some, hu]

theorem exec_regWr_refused {r v : Word32} (hidle : s.isIdle = true)
    (h : ((regOf r).bind fun g => s.writeReg g v) = none) : exec (.regWr r v) s = .next (s.refuse .operandRange) := by
  refine (whenIdle_idle hidle).trans ?_
  rw [h]

/-- The numbers below 0x10 are read-only or unassigned, those above 0x17 unassigned. -/
theorem writeReg_none {r : Word32} (h : r.toNat < 0x10 ∨ 0x17 < r.toNat) (v : Word32) :
    ((regOf r).bind fun g => s.writeReg g v) = none := by
  generalize hn : r.toNat = n at h
  rw [regOf, hn]
  rcases h with h | h
  · interval_cases n <;> rfl
  · obtain ⟨k, rfl⟩ := Nat.exists_eq_add_of_le' h
    rfl

/-! ### `REG.RD` (spec/44_transfer_sequencer.md R194, spec/10_state.md R37) -/

theorem exec_regRd {r : Word32} {g : Reg} {n : Nat} (hr : regOf r = some g) (hn : s.readReg g = BitVec.ofNat 32 n) :
    exec (.regRd r) s = .next { s.performed with res := BitVec.ofNat 32 n } := by
  rw [← hn]
  simp only [exec, execRegRd, hr]

theorem exec_regRd_refused {r : Word32} (hr : regOf r = none) : exec (.regRd r) s = .next (s.refuse .operandRange) := by
  simp only [exec, execRegRd, hr]

theorem regOf_none {r : Word32} (h : 0x0D ≤ r.toNat ∧ r.toNat ≤ 0x0F ∨ 0x18 ≤ r.toNat) : regOf r = none := by
  generalize hn : r.toNat = n at h
  rw [regOf, hn]
  rcases h with ⟨hlo, hhi⟩ | h
  · interval_cases n <;> rfl
  · obtain ⟨k, rfl⟩ := Nat.exists_eq_add_of_le' h
    rfl

theorem statusWord_toNat (s : State) :
    (statusWord s).toNat = s.busy.toNat + 2 * s.done.toNat + 4 * s.aborted.toNat + 8 * s.await.toNat := by
  simp only [statusWord, toNat_append_eq_add, BitVec.toNat_ofBool]
  omega

theorem seqWord_toNat (s : State) : (seqWord s).toNat = (seqCode s.seq).toNat + 16 * s.img.val := by
  have himg : s.img.val % 2 ^ 2 = s.img.val := Nat.mod_eq_of_lt (by omega)
  rw [seqWord, toNat_append_eq_add, BitVec.toNat_ofNat, himg]
  omega

theorem sizeLo_eq_ofNat (s : State) (p : Pos) : s.sizeLo p = BitVec.ofNat 32 (s.size[p].toNat % 2 ^ 32) := by
  apply BitVec.eq_of_toNat_eq
  simp [State.sizeLo]

theorem sizeHi_eq_ofNat (s : State) (p : Pos) : s.sizeHi p = BitVec.ofNat 32 (s.size[p].toNat / 2 ^ 32) := by
  apply BitVec.eq_of_toNat_eq
  simp [State.sizeHi, Nat.shiftRight_eq_div_pow]

/-- A length register holds the low 32 bits of the length (log 11). -/
theorem ofNat_length_mod (l : List Byte) : BitVec.ofNat 32 l.length = BitVec.ofNat 32 (l.length % 2 ^ 32) := by
  apply BitVec.eq_of_toNat_eq
  simp

/-! ### `BUF.RD` (spec/44_transfer_sequencer.md R192) -/

theorem exec_bufRd {space index : Word32} {sp : Space} {b : Byte} (hsp : spaceOf space = some sp)
    (hb : (s.buffer sp)[index.toNat]? = some b) :
    exec (.bufRd space index) s = .next { s.performed with res := b.setWidth 32 } := by
  simp only [exec, execBufRd, hsp, Option.bind_some, State.readByte, hb]

theorem exec_bufRd_beyond {space index : Word32} {sp : Space} (hsp : spaceOf space = some sp)
    (hlen : (s.buffer sp).length ≤ index.toNat) : exec (.bufRd space index) s = .next (s.refuse .operandRange) := by
  simp only [exec, execBufRd, hsp, Option.bind_some, State.readByte, List.getElem?_eq_none hlen]

theorem exec_bufRd_noSpace {space : Word32} (h : 2 < space.toNat) (index : Word32) :
    exec (.bufRd space index) s = .next (s.refuse .operandRange) := by
  have hnone : spaceOf space = none := by
    obtain ⟨k, hk⟩ := Nat.exists_eq_add_of_le' h
    rw [spaceOf, hk]
    rfl
  simp only [exec, execBufRd, hnone, Option.bind_none]

end HostAccess

/-! ### What a step does with the transport (spec/44_transfer_sequencer.md R207, spec/60_exceptions.md R233, R234) -/

section Transport
variable {s : State} {i : Instr}

/-- A step that is a `transmit` writes, where the assignments before the write leave the transport and the history. -/
theorem writes_of_transmit {ready : State} {w : List Byte} {after : State → State}
    (h : exec i s = s.transmit ready w after) (htx : ready.tx = s.tx) (hhist : ready.history = s.history) :
    Writes i s ready w after := by
  refine ⟨fun rest hrest => ?_, fun rest hrest => ?_⟩
  · rw [h, State.transmit, txWrite_of_cons (htx.trans hrest), hhist]
  · rw [h, State.transmit, txWrite_of_cons (htx.trans hrest), hhist]
    rfl

theorem writes_of_sendFramed {c : List Byte} {after : State → State} (h : exec i s = s.sendFramed c after) :
    Writes i s (withCommand s c (encodeFrame c)) (encodeFrame c) after :=
  writes_of_transmit h rfl rfl

theorem writes_of_sendUnframed {c : List Byte} {after : State → State} (h : exec i s = s.sendUnframed c after) :
    Writes i s (withCommand s c c) c after :=
  writes_of_transmit h rfl rfl

theorem awaits_of_awaitAck {k : Byte} {after : State → State} (h : exec i s = s.awaitAck k after) :
    Awaits i s k after := by
  refine ⟨fun rest hrx => ?_, fun r rest hrx hr => ?_⟩
  · rw [h, State.awaitAck, rxRead_of_error hrx]
    rfl
  · refine ⟨fun hgood => ?_, fun hbad => ?_⟩
    · have hgood : ¬((validate r k).1 ≠ .ok ∧ s.cfg.ackFatal = true) := by
        rintro ⟨hne, hfatal⟩
        exact hgood.elim hne fun hf => absurd (hf.symm.trans hfatal) (by decide)
      rw [h, State.awaitAck, rxRead_of_burst hrx hr]
      exact if_neg hgood
    · rw [h, State.awaitAck, rxRead_of_burst hrx hr]
      exact if_pos hbad

theorem nextImg_of_val {j : Pos} (h : j.val = s.img.val + 1) : s.nextImg = some j := by
  have hlt : s.img.val + 1 < 3 := h ▸ j.isLt
  rw [State.nextImg, dif_pos hlt]
  exact congrArg some (Fin.ext h.symm)

theorem openTx_of_some {j : Pos} {c : List Byte} (h : openCmd s.cfg j (s.sizeLo j) = some c) :
    s.openTx j = s.sendFramed c fun t => t.expectAck ackOpen := by
  rw [State.openTx, h]

/-- Both commands of an image have a value unless the image is the first and below 8 bytes. -/
theorem openCmd_some {p : Pos} (h : p = 0 → 8 ≤ (s.sizeLo p).toNat) : ∃ c, openCmd s.cfg p (s.sizeLo p) = some c :=
  ⟨_, sizedCmd_some _ _ h⟩

theorem trailerCmd_some {p : Pos} (h : p = 0 → 8 ≤ (s.sizeLo p).toNat) :
    ∃ c, trailerCmd s.cfg p (s.sizeLo p) = some c :=
  ⟨_, sizedCmd_some _ _ h⟩

/-! ### The selected steps -/

theorem exec_sOpenTxNext (hsel : s.selected = some .sOpenTxNext) {j : Pos} (hj : s.nextImg = some j) :
    exec .sOpenTxNext s = s.openTx j := by
  refine (whenSelected_selected hsel).trans ?_
  rw [hj]

theorem exec_sOpenAckNext (hsel : s.selected = some .sOpenAckNext) {j : Pos} (hj : s.nextImg = some j) :
    exec .sOpenAckNext s = s.openAckTo j := by
  refine (whenSelected_selected hsel).trans ?_
  rw [hj]

theorem exec_sTrailerTx (hsel : s.selected = some .sTrailerTx) {c : List Byte}
    (hc : trailerCmd s.cfg s.img (s.sizeLo s.img) = some c) :
    exec .sTrailerTx s = s.sendUnframed c fun t => { t with off := 0, seq := .imageStreaming } := by
  refine (whenSelected_selected hsel).trans ?_
  rw [hc]

section Chunk
variable (hsel : s.selected = some .sChunk) (hoff : s.off.toNat ≤ (s.sizeLo s.img).toNat)
include hsel hoff

theorem exec_sChunk_full (hlen : s.chunkLen = chunk) :
    exec .sChunk s = s.transmit s (s.imgRead s.img s.off.toNat chunk) fun t =>
      { t with off := t.off + BitVec.ofNat 32 chunk } := by
  refine (whenSelected_selected hsel).trans ((if_neg (Nat.not_lt.mpr hoff)).trans ((if_pos hlen).trans ?_))
  rw [hlen]

/-- The final chunk: all that is left is read, and sent but for the last 8 bytes of the first image. -/
theorem exec_sChunk_final (hlen : s.chunkLen ≠ chunk) (hkept : ¬(s.img = 0 ∧ s.chunkLen < trailerAdj)) :
    exec .sChunk s = s.transmit s
      (s.imgRead s.img s.off.toNat (if s.img = 0 then s.chunkLen - trailerAdj else s.chunkLen))
      fun t => { t with off := t.off + BitVec.ofNat 32 s.chunkLen }.expectAck ackData := by
  have htake : (if s.img = 0 then s.chunkLen - trailerAdj else s.chunkLen) ≤ s.chunkLen := by
    split
    · exact Nat.sub_le _ _
    · exact le_rfl
  rw [← imgRead_take htake]
  exact (whenSelected_selected hsel).trans
    ((if_neg (Nat.not_lt.mpr hoff)).trans ((if_neg hlen).trans (if_neg hkept)))

end Chunk

end Transport

/-! ### A step without a request (spec/44_transfer_sequencer.md R196; logs 3 and 12) -/

section Quiet
variable {s : State} {rest : List HostInput}

theorem step_of_no_input (hp : s.port = none) (hh : s.host = []) : step s = s.runSequencer := by
  rw [step_turn (by simp only [State.resetNow, hh]), arrive_of_no_input hh]
  simp only [State.turn, hp]

theorem step_of_idle_input (hp : s.port = none) (hh : s.host = .idle :: rest) :
    step s = State.runSequencer { s with host := rest } := by
  rw [step_turn (by simp only [State.resetNow, hh]), arrive_of_idle_input hh]
  simp only [State.turn, hp]

theorem runSequencer_decoded {i : Instr} (hbusy : s.busy = true) (hi : decodeSelector s.selector = .ok i) :
    s.runSequencer = exec i s := by
  simp only [State.runSequencer, hbusy, hi, if_true]

end Quiet

end Sys2Proof.Machine

section
open Sys2Proof Sys2Proof.Machine

/-- Settles O47: the chunks and the final event are reads that follow one another (`imgRead_append`). -/
theorem dataEventsAreTheImage : Obligations.DataEventsAreTheImage := by
  intro s p h
  have hflat := dataEvents_flatten h
  refine ⟨dataEvents_length s p, fun i hi => ?_, hflat, fun v hv => ?_⟩
  · exact ⟨_, dataEvents_full hi, imgRead_length _ _ _ _⟩
  · have h8 (hp : p = 0) : 8 ≤ (s.sizeLo p).toNat := (h hp).trans (Nat.mod_le _ _)
    rw [hflat, imgRead_length, adj_toNat h8 hv]

/-- Settles O7: without a request the step is the sequencer's turn. -/
theorem stepRunsTheSelectedStep : Obligations.StepRunsTheSelectedStep := by
  intro s rest hp
  refine ⟨fun i hbusy hi => ⟨fun hh => ?_, fun hh => ?_⟩, fun hbusy => ⟨fun hh => ?_, fun hh => ?_⟩⟩
  · rw [step_of_no_input hp hh, runSequencer_decoded hbusy hi]
  · rw [step_of_idle_input hp hh]
    exact runSequencer_decoded (s := { s with host := rest }) hbusy hi
  · rw [step_of_no_input hp hh, runSequencer_not_busy hbusy]
  · rw [step_of_idle_input hp hh]
    exact runSequencer_not_busy (s := { s with host := rest }) hbusy

/-- Settles O34: the two outcomes of the check, whose conditions are `configOk_iff_numbers`. -/
theorem seqRunChecksTheConfiguration : Obligations.SeqRunChecksTheConfiguration := by
  refine ⟨requestIs_seqRun, fun s hidle => ⟨fun hok => ?_, fun hbad => ?_⟩⟩
  · exact exec_seqRun_ok hidle ((configOk_iff_numbers s).mpr hok)
  · exact exec_seqRun_bad hidle fun hok => hbad ((configOk_iff_numbers s).mp hok)

/-- Settles O35: each writable number names its register, and no other number takes a write (`writeReg_none`). -/
theorem regWrWritesTheConfiguration : Obligations.RegWrWritesTheConfiguration := by
  refine ⟨requestIs_regWr, fun s v hidle => ⟨exec_regWr hidle rfl rfl, ?_, fun i => ?_, fun i => ?_, fun r hr => ?_⟩⟩
  · rw [← BitVec.setWidth_eq_extractLsb' (by decide)]
    exact exec_regWr hidle rfl rfl
  · fin_cases i <;> exact exec_regWr hidle rfl rfl
  · fin_cases i <;> exact exec_regWr hidle rfl rfl
  · exact exec_regWr_refused hidle (writeReg_none hr v)

/-- Settles O36: each number names its register, and the register's value is the number listed beside it. -/
theorem regRdReadsEveryRegister : Obligations.RegRdReadsEveryRegister := by
  refine ⟨requestIs_regRd, rfl, rfl, rfl, rfl, fun s => ⟨?_, fun r hr => exec_regRd_refused (regOf_none hr)⟩⟩
  simp only [List.forall_mem_cons, List.not_mem_nil, false_imp_iff, implies_true, and_true]
  have narrow {n : Nat} (x : BitVec n) : x.setWidth 32 = BitVec.ofNat 32 x.toNat := (BitVec.ofNat_toNat 32 x).symm
  refine ⟨exec_regRd rfl ?_, exec_regRd rfl ?_, exec_regRd rfl (narrow _), exec_regRd rfl (narrow _),
    exec_regRd rfl (narrow _), exec_regRd rfl ?_, exec_regRd rfl (narrow _), exec_regRd rfl ?_, exec_regRd rfl (narrow _),
    exec_regRd rfl ?_, exec_regRd rfl (ofNat_length_mod _), exec_regRd rfl (ofNat_length_mod _),
    exec_regRd rfl (ofNat_length_mod _), exec_regRd rfl ?_, exec_regRd rfl (narrow _),
    exec_regRd rfl (sizeLo_eq_ofNat s 0), exec_regRd rfl (sizeHi_eq_ofNat s 0),
    exec_regRd rfl (sizeLo_eq_ofNat s 1), exec_regRd rfl (sizeHi_eq_ofNat s 1),
    exec_regRd rfl (sizeLo_eq_ofNat s 2), exec_regRd rfl (sizeHi_eq_ofNat s 2)⟩
  · rw [← statusWord_toNat]
    exact narrow _
  · rw [← seqWord_toNat]
    exact narrow _
  · rw [← lastAckWord_toNat]
    simp [State.readReg]
  · simp [State.readReg]
  · simp [State.readReg]
  · rw [← BitVec.toNat_ofBool]
    exact narrow _

/-- Settles O37: the three spaces by number, and the byte that stands at the index. -/
theorem bufRdReadsBelowTheLength : Obligations.BufRdReadsBelowTheLength := by
  refine ⟨requestIs_bufRd, fun s i => ⟨?_, fun sp hsp => exec_bufRd_noSpace hsp i⟩⟩
  simp only [List.forall_mem_cons, List.not_mem_nil, false_imp_iff, implies_true, and_true]
  exact ⟨⟨fun b => exec_bufRd (sp := .cmd) rfl, exec_bufRd_beyond (sp := .cmd) rfl⟩,
    ⟨fun b => exec_bufRd (sp := .frm) rfl, exec_bufRd_beyond (sp := .frm) rfl⟩,
    ⟨fun b => exec_bufRd (sp := .ack) rfl, exec_bufRd_beyond (sp := .ack) rfl⟩⟩

/-- Settles O39: both steps frame a command that needs no operand and hand it to the transport. -/
theorem helloAndCloseAreSent : Obligations.HelloAndCloseAreSent := by
  refine fun s hbusy hawait => ⟨fun hseq => ?_, fun hseq hlast => ?_⟩
  · exact writes_of_sendFramed (whenSelected_selected ((selected_sHelloTx s).mpr ⟨hbusy, hseq, hawait⟩))
  · have hsel := (selected_sCloseTx s).mpr ⟨hbusy, hseq, hawait, beq_iff_eq.mpr hlast⟩
    exact writes_of_sendFramed (whenSelected_selected hsel)

/-- Settles O40: the command has a value, the first image's by its size of at least 8, and is framed and sent. -/
theorem openIsSent : Obligations.OpenIsSent := by
  refine fun s hbusy hawait => ⟨fun hseq hsize => ?_, fun j hseq hnext hj => ?_⟩
  · have hsel := (selected_sOpenTxFirst s).mpr ⟨hbusy, hseq, hawait⟩
    obtain ⟨c, hc⟩ := openCmd_some (s := s) (p := 0) fun _ => hsize
    exact ⟨c, hc, writes_of_sendFramed ((whenSelected_selected hsel).trans (openTx_of_some hc))⟩
  · have hsel := (selected_sOpenTxNext s).mpr ⟨hbusy, hseq, hawait, beq_eq_false_iff_ne.mpr hnext.ne⟩
    have hne : j ≠ 0 := fun h => by simp [h] at hj
    obtain ⟨c, hc⟩ := openCmd_some (s := s) (p := j) fun h => absurd h hne
    exact ⟨c, hc, writes_of_sendFramed ((exec_sOpenTxNext hsel (nextImg_of_val hj)).trans (openTx_of_some hc))⟩

/-- Settles O41: the command has a value and is sent as it stands. -/
theorem trailerIsSentRaw : Obligations.TrailerIsSentRaw := by
  intro s hbusy hawait hseq hsize
  have hsel := (selected_sTrailerTx s).mpr ⟨hbusy, hseq, hawait⟩
  obtain ⟨c, hc⟩ := trailerCmd_some (s := s) (p := s.img) fun himg => by rw [himg]; exact hsize himg
  exact ⟨c, hc, writes_of_sendUnframed (exec_sTrailerTx hsel hc)⟩

/-- Settles O42: what is left decides between a full chunk and the final one (`exec_sChunk_full`, `exec_sChunk_final`). -/
theorem chunkIsSentVerbatim : Obligations.ChunkIsSentVerbatim := by
  intro s hbusy hawait hseq hoff left
  have hsel := (selected_sChunk s).mpr ⟨hbusy, hseq, hawait⟩
  have hrest (h : left < 262144) : s.chunkLen = left := Nat.min_eq_right h.le
  have hpart (h : left < 262144) : s.chunkLen ≠ chunk := (hrest h).trans_ne h.ne
  refine ⟨fun hfull => ?_, fun hlt himg => ?_, fun hlt himg h8 => ?_⟩
  · exact writes_of_transmit (exec_sChunk_full hsel hoff (Nat.min_eq_left hfull)) rfl rfl
  · have hexec := exec_sChunk_final hsel hoff (hpart hlt) fun h => himg h.1
    rw [if_neg himg, hrest hlt] at hexec
    exact writes_of_transmit hexec rfl rfl
  · have hexec := exec_sChunk_final hsel hoff (hpart hlt) fun h => absurd h.2 (by rw [hrest hlt]; exact Nat.not_lt.mpr h8)
    rw [if_pos himg, hrest hlt] at hexec
    exact writes_of_transmit hexec rfl rfl

/-- Settles O43: the four steps differ in the code and in what follows the wait. -/
theorem awaitingStepsReadOneBurst : Obligations.AwaitingStepsReadOneBurst := by
  refine fun s hbusy hawait => ⟨fun hseq => ?_, fun hseq => ?_, fun j hseq hj => ?_, fun hseq => ?_⟩
  · exact awaits_of_awaitAck (whenSelected_selected ((selected_sHelloAck s).mpr ⟨hbusy, hseq, hawait⟩))
  · exact awaits_of_awaitAck (whenSelected_selected ((selected_sOpenAckFirst s).mpr ⟨hbusy, hseq, hawait⟩))
  · have hsel := (selected_sOpenAckNext s).mpr ⟨hbusy, hseq, hawait⟩
    exact awaits_of_awaitAck (exec_sOpenAckNext hsel (nextImg_of_val hj))
  · exact awaits_of_awaitAck (whenSelected_selected ((selected_sDataAck s).mpr ⟨hbusy, hseq, hawait⟩))

/-- Settles O44: the step has no transport call and no check. -/
theorem finishEndsTheSession : Obligations.FinishEndsTheSession := by
  intro s hbusy hawait hseq
  exact whenSelected_selected ((selected_sFinish s).mpr ⟨hbusy, hseq, hawait⟩)

end

/-! The refusals and aborts of spec/60_exceptions.md. An operand outside the range of its rule makes the idle block refuse
(R237, R238). An abort is entered in five ways (R231 to R234): a configuration turned away, a command or image data that
the transport did not take, a failed read, a bad acknowledgment. `Aborts` says once what each of them leaves. -/
namespace Sys2Proof.Machine

/-! ### Operands outside their range (spec/60_exceptions.md R237) -/

section IllFormed
variable {p size r v : Word32}

theorem cmdLoad_illFormed {id : Word32} (h : (Instr.cmdLoad id).wellFormed = false) : 7 < id.toNat := by
  simpa only [Instr.wellFormed, templateIdOk, decide_eq_false_iff_not, Nat.not_le] using h

/-- The operands that `CMD.OPEN` and `CMD.TRAILER` refuse. -/
theorem sized_illFormed (h : (positionOk p && sizeOk p size) = false) : 2 < p.toNat ∨ p.toNat = 0 ∧ size.toNat < 8 := by
  simpa only [positionOk, sizeOk, Bool.and_eq_false_iff, Bool.or_eq_false_iff, bne_eq_false_iff_eq,
    decide_eq_false_iff_not, Nat.not_le] using h

theorem regWr_illFormed (h : (Instr.regWr r v).wellFormed = false) : r.toNat < 0x10 ∨ 0x17 < r.toNat := by
  simpa only [Instr.wellFormed, writableRegOk, Bool.and_eq_false_iff, decide_eq_false_iff_not, Nat.not_le] using h

theorem regRd_illFormed (h : (Instr.regRd r).wellFormed = false) :
    0x0D ≤ r.toNat ∧ r.toNat ≤ 0x0F ∨ 0x18 ≤ r.toNat := by
  simp only [Instr.wellFormed, readableRegOk, Bool.or_eq_false_iff, Bool.and_eq_false_iff, decide_eq_false_iff_not,
    Nat.not_le] at h
  omega

theorem bufRd_illFormed {space index : Word32} (h : (Instr.bufRd space index).wellFormed = false) : 2 < space.toNat := by
  simpa only [Instr.wellFormed, spaceOk, decide_eq_false_iff_not, Nat.not_le] using h

end IllFormed

/-- The idle block refuses whatever is ill-formed. -/
theorem exec_illFormed {s : State} {i : Instr} (hidle : s.isIdle = true) (h : i.wellFormed = false) :
    exec i s = .next (s.refuse .operandRange) := by
  cases i with
  | cmdLoad id => exact exec_cmdLoad_none hidle (template_none s.cfg (cmdLoad_illFormed h))
  | cmdOpen p size =>
    have hbuilds := builds_cmdOpen p size s
    simp only [openCmd_eq] at hbuilds
    exact hbuilds.sized_refused hidle (sized_illFormed h)
  | cmdTrailer p size =>
    have hbuilds := builds_cmdTrailer p size s
    simp only [trailerCmd_eq] at hbuilds
    exact hbuilds.sized_refused hidle (sized_illFormed h)
  | regWr r v => exact exec_regWr_refused hidle (writeReg_none (regWr_illFormed h) v)
  | regRd r => exact exec_regRd_refused (regOf_none (regRd_illFormed h))
  | bufRd space index => exact exec_bufRd_noSpace (bufRd_illFormed h) index
  | _ => cases h

/-! ### The ways into `Aborted` (spec/60_exceptions.md R231 to R234, R240) -/

/-- What a step into `Aborted` was, and the state it leaves: what precedes the failure is kept, then the abort is entered. -/
inductive Aborts (s t : State) : Prop where
  /-- `SEQ.RUN` in a configuration that fails the conditions of R195 (R232). -/
  | configRefused (idle : s.isIdle = true) (bad : s.configOk = false) (eq : t = s.performed.abort .configError)
  /-- The transport did not take a command, which stands in `CMD` and as it was sent in `FRM` (R233). -/
  | commandNotSent (c w : List Byte) (rest : List TxResult) (busy : s.busy = true) (notData : s.seq ≠ .imageStreaming)
      (next : nextPayload s = some w)
      (eq : t = State.abort { s.build c with frm := w, tx := rest, history := s.history ++ [.tx w .failed] } .transportTx)
  /-- The transport did not take image data, which passes `CMD` and `FRM` by (R233). -/
  | dataNotSent (b : List Byte) (rest : List TxResult) (busy : s.busy = true) (data : s.seq = .imageStreaming)
      (next : nextPayload s = some b)
      (eq : t = State.abort { s with tx := rest, history := s.history ++ [.tx b .failed] } .transportTx)
  /-- The read of an acknowledgment failed (R233). -/
  | readFailed (rest : List RxResult) (await : s.await = true)
      (eq : t = State.abort { s with rx := rest, history := s.history ++ [.rx .error] } .transportRx)
  /-- The acknowledgment is not the one expected, and `ACK_FATAL = 1` (R234). -/
  | badAck (r : List Byte) (rest : List RxResult) (await : s.await = true) (fatal : s.cfg.ackFatal = true)
      (bad : (validate r s.expect).1 ≠ .ok)
      (eq : t = (State.record { s with rx := rest, ack := r, history := s.history ++ [.rx (.burst r)] }
        (validate r s.expect) s.expect).abort .ackFatal)

/-- A step that waits for an acknowledgment sends nothing. -/
theorem await_of_nextPayload {s : State} {b : List Byte} (h : nextPayload s = some b) : s.await = false := by
  refine Bool.eq_false_iff.mpr fun hawait => ?_
  rw [nextPayload, if_pos hawait] at h
  cases h

/-- `S.FINISH` has no transport call, so nothing in it fails. -/
theorem sFinish_seq {s t : State} (h : execSFinish s = .next t) : t.seq = .done := by
  obtain ⟨-, h⟩ := whenSelected_next h
  cases h
  rfl

section Entry
variable {s t : State} (hs : s.seq ≠ .aborted) (ht : t.seq = .aborted)
include hs ht

/-- Of the requests only `SEQ.RUN` aborts. -/
theorem request_aborts {i : Instr} (hi : isRequest i = true) (h : exec i s = .next t) : Aborts s t := by
  cases (request_effect hi s).of_next h with
  | answered same => exact absurd (same.seq.symm.trans ht) hs
  | started _ _ eq => exact absurd ht (by rw [eq]; exact hs)
  | turnedAway idle bad eq => exact .configRefused idle bad eq
  | configured _ eq => exact absurd ht (by rw [eq]; exact hs)

/-- A sending step aborts where the transport does not take the bytes; what follows a write does not abort. -/
theorem transmit_aborts {ready : State} {b : List Byte} {after : State → State} (h : s.transmit ready b after = .next t)
    (hready : ready.seq = s.seq) (hafter : ∀ u, u.seq ≠ .aborted → (after u).seq ≠ .aborted) :
    ∃ rest, t = State.abort { ready with tx := rest, history := ready.history ++ [.tx b .failed] } .transportTx := by
  rcases transmit_next h with ⟨-, rfl⟩ | ⟨rest, -, rfl⟩ | ⟨rest, -, rfl⟩
  · exact absurd ht hs
  · exact absurd ht (hafter _ (hready ▸ hs))
  · exact ⟨rest, rfl⟩

/-- A step that builds the command `c` and sends it as `w`. -/
theorem command_aborts {c w : List Byte} {after : State → State}
    (h : s.transmit { s.build c with frm := w } w after = .next t) (hbusy : s.busy = true)
    (hdata : s.seq ≠ .imageStreaming) (hnext : nextPayload s = some w)
    (hafter : ∀ u, u.seq ≠ .aborted → (after u).seq ≠ .aborted) : Aborts s t := by
  obtain ⟨rest, rfl⟩ := transmit_aborts hs ht h rfl hafter
  exact .commandNotSent c w rest hbusy hdata hnext rfl

/-- An awaiting step aborts on a failed read, and on a bad acknowledgment where that is fatal. -/
theorem awaitAck_aborts {k : Byte} {after : State → State} (h : s.awaitAck k after = .next t) (hawait : s.await = true)
    (hk : s.expect = k) (hafter : ∀ u, (after u).seq ≠ .aborted) : Aborts s t := by
  subst hk
  rcases awaitAck_next h with ⟨-, rfl⟩ | ⟨u, hu, rfl⟩ | ⟨r, u, hu, hbad, hfatal, rfl⟩ | ⟨r, u, -, -, rfl⟩
  · exact absurd ht hs
  · obtain ⟨rest, -, rfl⟩ := rxRead_error hu
    exact .readFailed rest hawait rfl
  · obtain ⟨d, rest, -, -, rfl⟩ := rxRead_burst hu
    exact .badAck r _ hawait hfatal hbad rfl
  · exact absurd ht (hafter _)

theorem openTx_aborts {j : Pos} (h : s.openTx j = .next t) (hbusy : s.busy = true) (hdata : s.seq ≠ .imageStreaming)
    (hnext : nextPayload s = some (encodeFrame (openBytes s j))) : Aborts s t := by
  unfold State.openTx at h
  split at h
  · cases h
  · rw [openBytes_of_some ‹_›] at hnext
    exact command_aborts hs ht h hbusy hdata hnext fun _ hu => hu

theorem sHelloTx_aborts (h : execSHelloTx s = .next t) : Aborts s t := by
  obtain ⟨hsel, h⟩ := whenSelected_next h
  obtain ⟨hbusy, hseq, -⟩ := (selected_sHelloTx s).mp hsel
  exact command_aborts hs ht h hbusy (by simp [hseq]) (nextPayload_sHelloTx hsel) fun _ hu => hu

theorem sOpenTxFirst_aborts (h : execSOpenTxFirst s = .next t) : Aborts s t := by
  obtain ⟨hsel, h⟩ := whenSelected_next h
  obtain ⟨hbusy, hseq, -⟩ := (selected_sOpenTxFirst s).mp hsel
  exact openTx_aborts hs ht h hbusy (by simp [hseq]) (nextPayload_sOpenTxFirst hsel)

theorem sOpenTxNext_aborts (h : execSOpenTxNext s = .next t) : Aborts s t := by
  obtain ⟨hsel, h⟩ := whenSelected_next h
  obtain ⟨hbusy, hseq, -⟩ := (selected_sOpenTxNext s).mp hsel
  split at h
  · cases h
  · exact openTx_aborts hs ht h hbusy (by simp [hseq]) (nextPayload_sOpenTxNext hsel ‹_›)

theorem sTrailerTx_aborts (h : execSTrailerTx s = .next t) : Aborts s t := by
  obtain ⟨hsel, h⟩ := whenSelected_next h
  obtain ⟨hbusy, hseq, -⟩ := (selected_sTrailerTx s).mp hsel
  split at h
  · cases h
  · have hnext := nextPayload_sTrailerTx hsel
    rw [trailerBytes_of_some ‹_›] at hnext
    exact command_aborts hs ht h hbusy (by simp [hseq]) hnext fun _ _ => nofun

theorem sCloseTx_aborts (h : execSCloseTx s = .next t) : Aborts s t := by
  obtain ⟨hsel, h⟩ := whenSelected_next h
  obtain ⟨hbusy, hseq, -⟩ := (selected_sCloseTx s).mp hsel
  exact command_aborts hs ht h hbusy (by simp [hseq]) (nextPayload_sCloseTx hsel) fun _ _ => nofun

variable (hInv : Inv s)
include hInv

theorem sChunk_aborts (h : execSChunk s = .next t) : Aborts s t := by
  obtain ⟨hsel, h⟩ := whenSelected_next h
  obtain ⟨hbusy, hseq, -⟩ := (selected_sChunk s).mp hsel
  simp only at h
  split at h
  · cases h
  split at h
  · rename_i hfull
    rw [hfull] at h
    obtain ⟨rest, rfl⟩ := transmit_aborts hs ht h rfl fun _ hu => hu
    exact .dataNotSent _ rest hbusy hseq (nextPayload_fullChunk hInv hsel hfull) rfl
  split at h
  · cases h
  · rename_i hpart _
    obtain ⟨rest, rfl⟩ := transmit_aborts hs ht h rfl fun _ hu => hu
    exact .dataNotSent _ rest hbusy hseq (nextPayload_finalChunk hInv hsel hpart) rfl

theorem sHelloAck_aborts (h : execSHelloAck s = .next t) : Aborts s t := by
  obtain ⟨hsel, h⟩ := whenSelected_next h
  obtain ⟨-, hseq, hawait⟩ := (selected_sHelloAck s).mp hsel
  have hk : s.expect = ackHello := by simpa [hseq, ackHello] using hInv.expectCode hawait
  exact awaitAck_aborts hs ht h hawait hk fun _ => nofun

/-- `S.OPEN_ACK` in either of its two rows. -/
theorem openAckTo_aborts {j : Pos} (h : s.openAckTo j = .next t) (hawait : s.await = true)
    (hseq : s.seq = .helloSent ∨ s.seq = .imageAcked) : Aborts s t := by
  have hk : s.expect = ackOpen := by
    have hcode := hInv.expectCode hawait
    rcases hseq with hseq | hseq <;> simpa [hseq, ackOpen] using hcode
  exact awaitAck_aborts hs ht h hawait hk fun _ => nofun

theorem sOpenAckFirst_aborts (h : execSOpenAckFirst s = .next t) : Aborts s t := by
  obtain ⟨hsel, h⟩ := whenSelected_next h
  obtain ⟨-, hseq, hawait⟩ := (selected_sOpenAckFirst s).mp hsel
  exact openAckTo_aborts hs ht hInv h hawait (.inl hseq)

theorem sOpenAckNext_aborts (h : execSOpenAckNext s = .next t) : Aborts s t := by
  obtain ⟨hsel, h⟩ := whenSelected_next h
  obtain ⟨-, hseq, hawait⟩ := (selected_sOpenAckNext s).mp hsel
  split at h
  · cases h
  · exact openAckTo_aborts hs ht hInv h hawait (.inr hseq)

theorem sDataAck_aborts (h : execSDataAck s = .next t) : Aborts s t := by
  obtain ⟨hsel, h⟩ := whenSelected_next h
  obtain ⟨-, hseq, hawait⟩ := (selected_sDataAck s).mp hsel
  have hk : s.expect = ackData := by simpa [hseq, ackData] using hInv.expectCode hawait
  exact awaitAck_aborts hs ht h hawait hk fun _ => nofun

/-- Every instruction that enters `Aborted`. -/
theorem exec_aborts {i : Instr} (h : exec i s = .next t) : Aborts s t := by
  cases hreq : isRequest i with
  | true => exact request_aborts hs ht hreq h
  | false =>
    cases i with
    | sHelloTx => exact sHelloTx_aborts hs ht h
    | sHelloAck => exact sHelloAck_aborts hs ht hInv h
    | sOpenTxFirst => exact sOpenTxFirst_aborts hs ht h
    | sOpenTxNext => exact sOpenTxNext_aborts hs ht h
    | sOpenAckFirst => exact sOpenAckFirst_aborts hs ht hInv h
    | sOpenAckNext => exact sOpenAckNext_aborts hs ht hInv h
    | sTrailerTx => exact sTrailerTx_aborts hs ht h
    | sChunk => exact sChunk_aborts hs ht hInv h
    | sDataAck => exact sDataAck_aborts hs ht hInv h
    | sCloseTx => exact sCloseTx_aborts hs ht h
    | sFinish => exact absurd ((sFinish_seq h).symm.trans ht) (by decide)
    | _ => cases hreq

/-- A step into `Aborted` runs an instruction that aborts, after the host's input. -/
theorem step_aborts (h : step s = .next t) : Aborts s.arrive t := by
  have hseq : s.arrive.seq = s.seq := (arrive_sameSession s).seq
  have hs' : s.arrive.seq ≠ .aborted := hseq ▸ hs
  rcases step_cases h with ⟨-, rfl⟩ | ⟨-, w, i, -, -, hi⟩ | ⟨-, w, e, -, -, rfl⟩ | ⟨-, -, -, i, -, hi⟩ | ⟨-, -, -, rfl⟩
  · cases ht
  · exact exec_aborts hs' ht hInv.arrive hi
  · exact absurd ht hs'
  · exact exec_aborts hs' ht hInv.arrive hi
  · exact absurd ht hs'

end Entry

/-- In `Aborted` nothing runs and nothing is awaited. -/
theorem Inv.aborted_flags {t : State} (h : Inv t) (ht : t.seq = .aborted) :
    t.aborted = true ∧ t.done = false ∧ t.busy = false ∧ t.await = false := by
  have hbusy : t.busy = false := Bool.eq_false_iff.mpr fun hb => (h.busyRuns hb).2 ht
  have hdone : t.done = false := Bool.eq_false_iff.mpr fun hd => absurd (ht.symm.trans (h.doneIff.mp hd)) (by decide)
  have hawait : t.await = false := Bool.eq_false_iff.mpr fun ha => absurd (h.awaitBusy ha) (by rw [hbusy]; decide)
  exact ⟨h.abortedIff.mpr ht, hdone, hbusy, hawait⟩

end Sys2Proof.Machine

section
open Sys2Proof Sys2Proof.Machine

/-- Settles O38: the six operations that have a range for their operands refuse the others (`exec_illFormed`). -/
theorem illFormedRequestsAreRefused : Obligations.IllFormedRequestsAreRefused :=
  fun _ _ hidle hbad => exec_illFormed hidle hbad

/-- Settles O55: the flags by the invariant of the next state, the rest in each of the five ways into `Aborted`
(`step_aborts`). -/
theorem abortsRecordTheirCause : Obligations.AbortsRecordTheirCause := by
  intro s t hInv hs hstep ht
  have habort := step_aborts hs ht hInv hstep
  obtain ⟨haborted, hdone, hbusy, hawait⟩ := ((step_keeps hInv).of_next hstep).aborted_flags ht
  rw [arrive_frame] at habort
  refine ⟨haborted, hdone, hbusy, hawait, ?_⟩
  cases habort with
  | configRefused idle bad eq =>
    subst eq
    exact ⟨rfl, rfl, rfl, rfl, rfl, rfl, ((isIdle_iff s).mp idle).1, bad, rfl, rfl, rfl, rfl, rfl, rfl, rfl⟩
  | commandNotSent c w rest busy notData next eq =>
    subst eq
    exact ⟨rfl, rfl, rfl, rfl, rfl, rfl, busy, await_of_nextPayload next,
      ⟨w, next, rfl, (if_neg notData).mpr rfl⟩, rfl, rfl, rfl⟩
  | dataNotSent b rest busy data next eq =>
    subst eq
    exact ⟨rfl, rfl, rfl, rfl, rfl, rfl, busy, await_of_nextPayload next,
      ⟨b, next, rfl, (if_pos data).mpr ⟨rfl, rfl, rfl⟩⟩, rfl, rfl, rfl⟩
  | readFailed rest await eq =>
    subst eq
    exact ⟨rfl, rfl, rfl, rfl, rfl, rfl, await, rfl, rfl, rfl, rfl, rfl, rfl⟩
  | badAck r rest await fatal bad eq =>
    subst eq
    exact ⟨rfl, rfl, rfl, rfl, rfl, rfl, await, fatal, rfl, rfl, rfl, bad, rfl⟩

end

/-! Blocked calls and liveness (spec/70_reset_and_hazards.md R267). Each step that the registers select is one write, one
read, or `S.FINISH` (`selected_step_kinds`). A call that the transport does not answer holds its step; one that it answers
takes the next event of the session's plan, so a session whose every call returns comes to the end of its plan. -/
namespace Sys2Proof.Machine

/-! ### A selected step is one write, one read, or the end (spec/44_transfer_sequencer.md R196) -/

/-- The steps of the sequencer that write to the transport. -/
def sendingSteps : List Instr := [.sHelloTx, .sOpenTxFirst, .sOpenTxNext, .sTrailerTx, .sChunk, .sCloseTx]

/-- The steps of the sequencer that read from the transport. -/
def awaitingSteps : List Instr := [.sHelloAck, .sOpenAckFirst, .sOpenAckNext, .sDataAck]

/-- In `s` the instruction `i` is one write: before it a command at most is built, after it the sequencer's registers
move. -/
inductive WritesOnce (i : Instr) (s : State) : Prop where
  | intro {crc : Word16} {cmd frm b : List Byte} {after : State → State}
      (eq : exec i s = s.transmit { s with crc := crc, cmd := cmd, frm := frm } b after)
      (moves : ∀ u, MovesOn u (after u))

/-- In `s` the instruction `i` is one read, after which the sequencer's registers move. -/
inductive ReadsOnce (i : Instr) (s : State) : Prop where
  | intro {k : Byte} {after : State → State} (eq : exec i s = s.awaitAck k after) (moves : ∀ u, MovesOn u (after u))

section Kinds
variable {s : State} {i : Instr}

theorem WritesOnce.of_sendFramed {c : List Byte} {after : State → State} (h : exec i s = s.sendFramed c after)
    (moves : ∀ u, MovesOn u (after u)) : WritesOnce i s :=
  .intro h moves

theorem WritesOnce.of_openTx (hok : s.configOk = true) {j : Pos} (hj : j.val < s.nimg.toNat)
    (h : exec i s = s.openTx j) : WritesOnce i s := by
  obtain ⟨c, hc⟩ := exists_openCmd hok hj
  exact .of_sendFramed (h.trans (openTx_of_some hc)) fun _ => rfl

variable (h : Inv s)
include h

theorem sOpenTxNext_writesOnce (hsel : s.selected = some .sOpenTxNext) : WritesOnce .sOpenTxNext s := by
  obtain ⟨hbusy, -, -, hlast⟩ := (selected_sOpenTxNext s).mp hsel
  have hne : s.img.val + 1 ≠ s.nimg.toNat := beq_eq_false_iff_ne.mp hlast
  have hnext : s.img.val + 1 < s.nimg.toNat := lt_of_le_of_ne (h.imgBelow hbusy) hne
  obtain ⟨j, hj, hjn⟩ := nextImg_of_lt (h.configRuns hbusy) hnext
  exact .of_openTx (h.configRuns hbusy) hjn (exec_sOpenTxNext hsel hj)

theorem sTrailerTx_writesOnce (hsel : s.selected = some .sTrailerTx) : WritesOnce .sTrailerTx s := by
  have hbusy := busy_of_selected hsel
  obtain ⟨c, hc⟩ := exists_trailerCmd (h.configRuns hbusy) (h.imgBelow hbusy)
  exact .intro (exec_sTrailerTx hsel hc) fun _ => rfl

/-- The first image's final chunk is never below 8 bytes: the step would be stuck, and with the invariant it is not. -/
theorem sChunk_writesOnce (hsel : s.selected = some .sChunk) : WritesOnce .sChunk s := by
  obtain ⟨hbusy, hseq, hawait⟩ := (selected_sChunk s).mp hsel
  obtain ⟨-, hoff⟩ := h.off_whole hsel
  by_cases hlen : s.chunkLen = chunk
  · exact .intro (exec_sChunk_full hsel hoff hlen) fun _ => rfl
  · have hkept : ¬(s.img = 0 ∧ s.chunkLen < trailerAdj) := by
      rintro ⟨himg, hshort⟩
      rw [himg] at hoff
      have hleft : (s.sizeLo 0).toNat - s.off.toNat < 8 := by
        simp only [State.chunkLen, himg, chunk, trailerAdj] at hshort
        omega
      obtain ⟨t, ht, -⟩ := sChunk_keeps h hsel
      cases (exec_sChunk_negative hbusy hawait hseq himg hoff hleft).symm.trans ht
    exact .intro (exec_sChunk_final hsel hoff hlen hkept) fun _ => rfl

theorem sOpenAckNext_readsOnce (hsel : s.selected = some .sOpenAckNext) : ReadsOnce .sOpenAckNext s := by
  obtain ⟨hbusy, hseq, hawait⟩ := (selected_sOpenAckNext s).mp hsel
  obtain ⟨j, hj, -⟩ := nextImg_of_lt (h.configRuns hbusy) (h.nextOpen hseq hawait)
  exact .intro (exec_sOpenAckNext hsel hj) fun _ => rfl

variable (hsel : s.selected = some i)
include hsel

theorem sending_writesOnce (hi : i ∈ sendingSteps) : WritesOnce i s := by
  have hbusy := busy_of_selected hsel
  simp only [sendingSteps, List.mem_cons, List.not_mem_nil, or_false] at hi
  rcases hi with rfl | rfl | rfl | rfl | rfl | rfl
  · exact .of_sendFramed (whenSelected_selected hsel) fun _ => rfl
  · exact .of_openTx (h.configRuns hbusy) (h.nimg_pos hbusy) (j := 0) (whenSelected_selected hsel)
  · exact sOpenTxNext_writesOnce h hsel
  · exact sTrailerTx_writesOnce h hsel
  · exact sChunk_writesOnce h hsel
  · exact .of_sendFramed (whenSelected_selected hsel) fun _ => rfl

theorem awaiting_readsOnce (hi : i ∈ awaitingSteps) : ReadsOnce i s := by
  simp only [awaitingSteps, List.mem_cons, List.not_mem_nil, or_false] at hi
  rcases hi with rfl | rfl | rfl | rfl
  · exact .intro (whenSelected_selected hsel) fun _ => rfl
  · exact .intro (whenSelected_selected hsel) fun _ => rfl
  · exact sOpenAckNext_readsOnce h hsel
  · exact .intro (whenSelected_selected hsel) fun _ => rfl

end Kinds

/-- Every step of the table is of one of the three kinds. -/
theorem selected_step_kinds {s : State} {i : Instr} (hsel : s.selected = some i) :
    i ∈ sendingSteps ∨ i ∈ awaitingSteps ∨ i = .sFinish := by
  have hstep := isRequest_of_decodeSelector (decodeSelector_of_selected hsel)
  cases i with
  | sHelloTx | sOpenTxFirst | sOpenTxNext | sTrailerTx | sChunk | sCloseTx => exact .inl (by decide)
  | sHelloAck | sOpenAckFirst | sOpenAckNext | sDataAck => exact .inr (.inl (by decide))
  | sFinish => exact .inr (.inr rfl)
  | _ => cases hstep

/-! ### A call that does not return (spec/20_memory.md R56, R58) -/

section Blocked
variable {s : State} {i : Instr}

theorem WritesOnce.blocked (h : WritesOnce i s) (htx : s.tx = []) : exec i s = .next s := by
  obtain ⟨eq, -⟩ := h
  rw [eq, State.transmit, txWrite_none.mpr (by exact htx)]

theorem ReadsOnce.blocked (h : ReadsOnce i s) (hrx : s.rx = []) : exec i s = .next s := by
  obtain ⟨eq, -⟩ := h
  rw [eq, State.awaitAck, rxRead_none.mpr hrx]

theorem exec_txSend_blocked (hidle : s.isIdle = true) (htx : s.tx = []) : exec .txSend s = .next s := by
  refine (whenIdle_idle hidle).trans ?_
  rw [txWrite_none.mpr htx]

theorem exec_ackRecv_blocked (hidle : s.isIdle = true) (hrx : s.rx = []) : exec .ackRecv s = .next s := by
  refine (whenIdle_idle hidle).trans ?_
  rw [rxRead_none.mpr hrx]

end Blocked

end Sys2Proof.Machine

section
open Sys2Proof Sys2Proof.Machine

/-- Settles O45: with the invariant a sending step is one write and an awaiting step one read (`sending_writesOnce`,
`awaiting_readsOnce`), and a call that does not return answers the same state. -/
theorem blockedCallsChangeNothing : Obligations.BlockedCallsChangeNothing := by
  refine fun s => ⟨exec_txSend_blocked, exec_ackRecv_blocked, fun i h hsel htx hi => ?_, fun i h hsel hrx hi => ?_⟩
  · exact (sending_writesOnce h hsel hi).blocked htx
  · exact (awaiting_readsOnce h hsel hi).blocked hrx

end

namespace Sys2Proof.Machine

/-! ### The registers stand for a beginning of the plan (spec/44_transfer_sequencer.md R209) -/

section Plan
variable (s : State)

theorem chunkEvents_prefix {p : Pos} {k : Nat} (h : k ≤ fullChunks s p) : chunkEvents s p k <+: dataEvents s p := by
  have htake : chunkEvents s p k = (chunkEvents s p (fullChunks s p)).take k := by
    simp [chunkEvents, ← List.map_take, List.take_range, h]
  rw [htake]
  exact (List.take_prefix _ _).trans (List.prefix_append _ _)

theorem streamed_prefix {p : Pos} {data : List (List Byte)} (h : data <+: dataEvents s p) :
    [.sent (encodeFrame (openBytes s p)), .read, .sent (trailerBytes s p)] ++ data.map .sent <+: imageEvents s p :=
  ((List.prefix_append_right_inj _).mpr (h.map _)).trans (List.prefix_append _ _)

/-- The positions up to one of the session's images come first among those of the session. -/
theorem positions_prefix : ∀ (n : BitVec 2) (p : Pos), p.val < n.toNat →
    (List.finRange 3).filter (·.val < p.val + 1) <+: (List.finRange 3).filter (·.val < n.toNat) := by decide

theorem imagesEvents_prefix {p : Pos} (hp : p.val < s.nimg.toNat) :
    imagesEvents s (p.val + 1) <+: imagesEvents s s.nimg.toNat := by
  obtain ⟨later, hlater⟩ := positions_prefix s.nimg p hp
  refine ⟨later.flatMap (imageEvents s), ?_⟩
  rw [imagesEvents, imagesEvents, ← hlater, List.flatMap_append]

/-- Hello, the images before `p`, and a beginning of the image at `p` are a beginning of the plan. -/
theorem plan_prefix {p : Pos} (hp : p.val < s.nimg.toNat) {es : List SessionEvent} (hes : es <+: imageEvents s p) :
    [.sent (helloFrame s), .read] ++ imagesEvents s p.val ++ es <+: sessionEvents s := by
  have himages : imagesEvents s p.val ++ es <+: imagesEvents s s.nimg.toNat :=
    ((List.prefix_append_right_inj _).mpr hes).trans (imagesEvents_succ s p ▸ imagesEvents_prefix s hp)
  rw [List.append_assoc]
  exact ((List.prefix_append_right_inj _).mpr himages).trans (List.prefix_append _ _)

variable {s}

/-- The events that a session has had are the first ones of its plan. -/
theorem eventsSoFar_prefix (h : Inv s) (hbusy : s.busy = true) : eventsSoFar s <+: sessionEvents s := by
  have hpos := h.nimg_pos hbusy
  have himg := h.imgBelow hbusy
  unfold eventsSoFar
  cases hseq : s.seq <;> cases hawait : s.await
  case start.false => exact List.nil_prefix
  case start.true => exact List.prefix_append [_] _
  case helloSent.false => exact (List.prefix_append _ _).trans (List.prefix_append _ _)
  case helloSent.true => exact plan_prefix s (p := 0) hpos (List.prefix_append [_] _)
  case imageOpen.false | imageOpen.true => exact plan_prefix s himg (List.prefix_append [_, _] _)
  case imageStreaming.false =>
    have hoff : s.off.toNat / chunk ≤ fullChunks s s.img := by
      rw [fullChunks, sizeLo_toNat (h.configRuns hbusy) himg]
      exact Nat.div_le_div_right (h.offBelow hseq)
    change _ ++ _ ++ _ <+: _
    rw [List.append_assoc]
    exact plan_prefix s himg (streamed_prefix s (chunkEvents_prefix s hoff))
  case imageStreaming.true =>
    change _ ++ _ ++ _ <+: _
    rw [List.append_assoc]
    exact plan_prefix s himg (streamed_prefix s List.prefix_rfl)
  case imageAcked.false =>
    have := plan_prefix s himg List.prefix_rfl
    simpa [imagesEvents_succ] using this
  case imageAcked.true =>
    obtain ⟨j, hj, hjn⟩ := nextImg_of_lt (h.configRuns hbusy) (h.nextOpen hseq hawait)
    simp only [hj]
    rw [← nextImg_some hj]
    exact plan_prefix s hjn (List.prefix_append [_] _)
  case closing.false | closing.true | done.false | done.true => exact List.prefix_rfl
  case aborted.false | aborted.true => exact List.nil_prefix

end Plan

/-! ### A call that returns (spec/20_memory.md R56 to R58) -/

/-- `t` is `s` after a transport call that has logged `e` and left the answers `tx` and `rx`; the session runs on. -/
def CallReturned (s t : State) (e : Event) (tx : List TxResult) (rx : List RxResult) : Prop :=
  t = { t with cfg := s.cfg, busy := s.busy, port := s.port, host := s.host
               history := s.history ++ [e], tx := tx, rx := rx }

namespace CallReturned
variable {s t : State} {e : Event} {tx : List TxResult} {rx : List RxResult} (h : CallReturned s t e tx rx)
include h

theorem cfg : t.cfg = s.cfg := by rw [h]
theorem busy : t.busy = s.busy := by rw [h]
theorem port : t.port = s.port := by rw [h]
theorem host : t.host = s.host := by rw [h]
theorem history : t.history = s.history ++ [e] := by rw [h]
theorem tx_eq : t.tx = tx := by rw [h]
theorem rx_eq : t.rx = rx := by rw [h]

end CallReturned

section Returned
variable {s : State} {i : Instr}

theorem WritesOnce.accepted (h : WritesOnce i s) {rest : List TxResult} (htx : s.tx = .ok :: rest) :
    ∃ t b, exec i s = .next t ∧ CallReturned s t (.tx b .ok) rest s.rx := by
  obtain @⟨crc, cmd, frm, b, after, eq, moves⟩ := h
  refine ⟨_, b, (writes_of_transmit eq rfl rfl).1 rest htx, ?_⟩
  rw [CallReturned, moves]

/-- With `ACK_FATAL = 0` a burst is never turned away. -/
theorem ReadsOnce.returned (h : ReadsOnce i s) (hfatal : s.cfg.ackFatal = false) {r : List Byte} {rest : List RxResult}
    (hrx : s.rx = .burst r :: rest) (hr : r.length ≤ ackBufLen s.cfg) :
    ∃ t, exec i s = .next t ∧ CallReturned s t (.rx (.burst r)) s.tx rest := by
  obtain @⟨k, after, eq, moves⟩ := h
  refine ⟨_, ((awaits_of_awaitAck eq).2 r rest hrx hr).1 (.inr hfatal), ?_⟩
  rw [CallReturned, moves]

/-- One logged event is one event of the plan. -/
theorem LogsEvents.singleton {s t : State} {e : Event} (h : LogsEvents s t) (hhist : t.history = s.history ++ [e]) :
    ∃ x, e.is x ∧ eventsSoFar t = eventsSoFar s ++ [x] := by
  obtain ⟨l, es, hl, hes, hevents⟩ := h
  cases List.append_cancel_left (hl.symm.trans hhist)
  obtain ⟨x, rest, hx, hrest, rfl⟩ := List.forall₂_cons_left_iff.mp hes
  cases hrest
  exact ⟨x, hx, hevents⟩

/-- A call that returns takes the next event of the plan. -/
theorem CallReturned.takes_next {t : State} {e : Event} {tx : List TxResult} {rx : List RxResult} (h : Inv s)
    (hsel : s.selected = some i) (hexec : exec i s = .next t) (hret : CallReturned s t e tx rx) :
    Inv t ∧ sessionEvents t = sessionEvents s ∧
      ∃ x, e.is x ∧ eventsSoFar t = eventsSoFar s ++ [x] ∧ eventsSoFar s ++ [x] <+: sessionEvents s := by
  have hbusy := hret.busy.trans (busy_of_selected hsel)
  obtain ⟨j, hj, hkeeps⟩ := selected_keeps h (busy_of_selected hsel)
  cases hj.symm.trans hsel
  have hInv := hkeeps.of_next hexec
  have hstep := selected_sessionStep h hsel hexec
  have hplan := hstep.untouched.sessionEvents_eq
  obtain ⟨x, hx, hevents⟩ := (hstep.logs (hInv.busyRuns hbusy).2).singleton hret.history
  exact ⟨hInv, hplan, x, hx, hevents, hevents ▸ hplan ▸ eventsSoFar_prefix hInv hbusy⟩

end Returned

/-- A sending step has a write before it in the plan, whether or not the transport will take it: were one accepted now, it
would be the plan's next event. -/
theorem sending_next {s : State} {i : Instr} (h : Inv s) (hsel : s.selected = some i) (hi : i ∈ sendingSteps) :
    ∃ b, eventsSoFar s ++ [.sent b] <+: sessionEvents s := by
  have hanswered : Inv { s with tx := [.ok] } := h.of_sameSession rfl ⟨h.cmdFits, h.frmFits, h.ackFits⟩
  have hsel' : State.selected { s with tx := [.ok] } = some i := hsel
  obtain ⟨t, b, hexec, hret⟩ := (sending_writesOnce hanswered hsel' hi).accepted rfl
  obtain ⟨-, -, x, hx, -, hnext⟩ := hret.takes_next hanswered hsel' hexec
  cases x with
  | sent b => exact ⟨b, hnext⟩
  | read => cases hx

/-- An awaiting step has a read before it in the plan, likewise. -/
theorem awaiting_next {s : State} {i : Instr} (h : Inv s) (hfatal : s.cfg.ackFatal = false)
    (hsel : s.selected = some i) (hi : i ∈ awaitingSteps) : eventsSoFar s ++ [.read] <+: sessionEvents s := by
  have hanswered : Inv { s with rx := [.burst []] } := h.of_sameSession rfl ⟨h.cmdFits, h.frmFits, h.ackFits⟩
  have hsel' : State.selected { s with rx := [.burst []] } = some i := hsel
  obtain ⟨t, hexec, hret⟩ := (awaiting_readsOnce hanswered hsel' hi).returned hfatal rfl (Nat.zero_le _)
  obtain ⟨-, -, x, hx, -, hnext⟩ := hret.takes_next hanswered hsel' hexec
  cases x with
  | sent b => cases hx
  | read => exact hnext

/-! ### A session whose every call returns (spec/70_reset_and_hazards.md R267) -/

/-- The session in `s` has the events `left` of its plan before it, and the transport holds an answer to each of them. -/
structure OnCourse (s : State) (left : List SessionEvent) : Prop where
  inv : Inv s
  busy : s.busy = true
  portFree : s.port = none
  hostDone : s.host = []
  notFatal : s.cfg.ackFatal = false
  plan : eventsSoFar s ++ left = sessionEvents s
  writes : ∀ r ∈ s.tx, r = .ok
  reads : ∀ r ∈ s.rx, ∃ b, r = .burst b ∧ b.length ≤ ackBufLen s.cfg
  enoughWrites : (payloads left).length ≤ s.tx.length
  enoughReads : left.count .read ≤ s.rx.length

theorem OnCourse.begin {s : State} (h : Inv s) (hbusy : s.busy = true) (hseq : s.seq = .start) (hawait : s.await = false)
    (hport : s.port = none) (hhost : s.host = []) (hfatal : s.cfg.ackFatal = false) (hcoop : Cooperative s) :
    OnCourse s (sessionEvents s) where
  inv := h
  busy := hbusy
  portFree := hport
  hostDone := hhost
  notFatal := hfatal
  plan := by simp [eventsSoFar, hseq, hawait]
  writes := hcoop.writes
  reads := hcoop.reads
  enoughWrites := hcoop.enoughWrites
  enoughReads := (count_read_sessionEvents s).trans_le hcoop.enoughReads

namespace OnCourse
variable {s : State} {left : List SessionEvent} (h : OnCourse s left)
include h

theorem step_eq {i : Instr} (hsel : s.selected = some i) : step s = exec i s := by
  rw [step_of_no_input h.portFree h.hostDone, runSequencer_selected hsel]

theorem left_eq_cons {x : SessionEvent} (hx : eventsSoFar s ++ [x] <+: sessionEvents s) : ∃ rest, left = x :: rest := by
  rw [← h.plan] at hx
  obtain ⟨rest, hrest⟩ := (List.prefix_append_right_inj _).mp hx
  exact ⟨rest, hrest.symm⟩

/-- The session stays on its course where the call that returned was the next of the plan. -/
theorem advance {x : SessionEvent} {rest : List SessionEvent} (hleft : left = x :: rest) {t : State} {e : Event}
    {tx : List TxResult} {rx : List RxResult} {i : Instr} (hsel : s.selected = some i) (hexec : exec i s = .next t)
    (hret : CallReturned s t e tx rx) (htx : tx <:+ s.tx) (hrx : rx <:+ s.rx)
    (hwrites : (payloads rest).length ≤ tx.length) (hreads : rest.count .read ≤ rx.length) : OnCourse t rest := by
  obtain ⟨hInv, hplan, y, -, hevents, hnext⟩ := hret.takes_next h.inv hsel hexec
  obtain ⟨rest', hrest'⟩ := h.left_eq_cons hnext
  cases hleft.symm.trans hrest'
  exact {
    inv := hInv
    busy := hret.busy.trans h.busy
    portFree := hret.port.trans h.portFree
    hostDone := hret.host.trans h.hostDone
    notFatal := hret.cfg ▸ h.notFatal
    plan := by rw [hevents, hplan, ← h.plan, hleft, List.append_assoc, List.singleton_append]
    writes := fun r hr => h.writes r (htx.subset (hret.tx_eq ▸ hr))
    reads := fun r hr => hret.cfg ▸ h.reads r (hrx.subset (hret.rx_eq ▸ hr))
    enoughWrites := hret.tx_eq ▸ hwrites
    enoughReads := hret.rx_eq ▸ hreads }

/-- A sending step finds its write accepted. -/
theorem sends {i : Instr} (hsel : s.selected = some i) (hi : i ∈ sendingSteps) :
    ∃ x rest t, left = x :: rest ∧ step s = .next t ∧ OnCourse t rest := by
  obtain ⟨b, hnext⟩ := sending_next h.inv hsel hi
  obtain ⟨rest, rfl⟩ := h.left_eq_cons hnext
  have henough : (payloads rest).length + 1 ≤ s.tx.length := h.enoughWrites
  cases htx : s.tx with
  | nil => simp [htx] at henough
  | cons r txs =>
    cases h.writes r (by simp [htx])
    obtain ⟨t, b', hexec, hret⟩ := (sending_writesOnce h.inv hsel hi).accepted htx
    refine ⟨_, rest, t, rfl, (h.step_eq hsel).trans hexec, h.advance rfl hsel hexec hret ?_ List.suffix_rfl ?_ ?_⟩
    · rw [htx]
      exact List.suffix_cons _ _
    · simpa [htx] using henough
    · simpa using h.enoughReads

/-- An awaiting step finds a burst to read. -/
theorem awaits {i : Instr} (hsel : s.selected = some i) (hi : i ∈ awaitingSteps) :
    ∃ x rest t, left = x :: rest ∧ step s = .next t ∧ OnCourse t rest := by
  obtain ⟨rest, rfl⟩ := h.left_eq_cons (awaiting_next h.inv h.notFatal hsel hi)
  have henough : rest.count .read + 1 ≤ s.rx.length := by simpa using h.enoughReads
  cases hrx : s.rx with
  | nil => simp [hrx] at henough
  | cons r rxs =>
    obtain ⟨burst, rfl, hfits⟩ := h.reads r (by simp [hrx])
    obtain ⟨t, hexec, hret⟩ := (awaiting_readsOnce h.inv hsel hi).returned h.notFatal hrx hfits
    refine ⟨_, rest, t, rfl, (h.step_eq hsel).trans hexec, h.advance rfl hsel hexec hret List.suffix_rfl ?_ ?_ ?_⟩
    · rw [hrx]
      exact List.suffix_cons _ _
    · exact h.enoughWrites
    · simpa [hrx] using henough

/-- In `Closing` nothing of the plan is left, and the session ends. -/
theorem finishes (hsel : s.selected = some .sFinish) :
    left = [] ∧ step s = .next { s with seq := .done, done := true, busy := false } := by
  obtain ⟨-, hseq, -⟩ := (selected_sFinish s).mp hsel
  have hall : eventsSoFar s = sessionEvents s := by rw [eventsSoFar, hseq]
  exact ⟨List.append_right_eq_self.mp (h.plan.trans hall.symm), (h.step_eq hsel).trans (whenSelected_selected hsel)⟩

/-- One step: the next event of the plan, or the end where the plan has none. -/
theorem next : (∃ x rest t, left = x :: rest ∧ step s = .next t ∧ OnCourse t rest) ∨
    (left = [] ∧ step s = .next { s with seq := .done, done := true, busy := false }) := by
  obtain ⟨i, hsel, -⟩ := selected_keeps h.inv h.busy
  rcases selected_step_kinds hsel with hi | hi | rfl
  · exact .inl (h.sends hsel hi)
  · exact .inl (h.awaits hsel hi)
  · exact .inr (h.finishes hsel)

end OnCourse

/-- By induction on what is left of the plan. -/
theorem OnCourse.reaches_done {s : State} {left : List SessionEvent} (h : OnCourse s left) :
    ∃ k t, runFor k s = .next t ∧ t.seq = .done ∧ t.done = true := by
  induction left generalizing s with
  | nil =>
    rcases h.next with ⟨x, rest, t, hcons, -⟩ | ⟨-, hstep⟩
    · cases hcons
    · exact ⟨1, _, runFor_succ hstep 0, rfl, rfl⟩
  | cons x rest ih =>
    rcases h.next with ⟨y, rest', t, hcons, hstep, ht⟩ | ⟨hnil, -⟩
    · cases hcons
      obtain ⟨k, u, hrun, hdone⟩ := ih ht
      exact ⟨k + 1, u, (runFor_succ hstep k).trans hrun, hdone⟩
    · cases hnil

end Sys2Proof.Machine

section
open Sys2Proof Sys2Proof.Machine

/-- Settles O60: at the start the whole plan is left, and a session on its course comes to the end of its plan
(`OnCourse.reaches_done`). -/
theorem cooperativeSessionReachesDone : Obligations.CooperativeSessionReachesDone :=
  fun _ h hbusy hseq hawait hport hhost hfatal hcoop =>
    (OnCourse.begin h hbusy hseq hawait hport hhost hfatal hcoop).reaches_done

end

/-! Noninterference (spec/70_reset_and_hazards.md R263, R269). Two states that differ only in what earlier operations or the
device's answers have left behind take the same step. Both statements are one argument: neither the choice of a step nor
what it sends depends on `Residue`, so a relation that leaves only parts of it open, and that whatever a step may do to the
block keeps (`Unseen`), is kept by every step of the sequencer. -/
namespace Sys2Proof.Machine

/-! ### One outcome follows another -/

/-- Where `r` answers a next state, `r'` answers one that is related to it. -/
def Simulates (R : State → State → Prop) (r r' : Result) : Prop := ∀ u, r = .next u → Answers r' (R u)

namespace Simulates
variable {R : State → State → Prop} {a a' b b' : Result}

theorem next {u v : State} (h : R u v) : Simulates R (.next u) (.next v) := by
  intro w hw
  cases hw
  exact answers_next h

theorem fault {f : Fault} : Simulates R (.fault f) a' := by
  intro u hu
  cases hu

theorem ite {c : Prop} [Decidable c] (ha : Simulates R a a') (hb : Simulates R b b') :
    Simulates R (if c then a else b) (if c then a' else b') := by
  by_cases hc : c
  · rwa [if_pos hc, if_pos hc]
  · rwa [if_neg hc, if_neg hc]

end Simulates

/-! ### What the sequencer does not see -/

/-- What neither the choice of the sequencer's step nor what the step sends depends on: the units' registers, the history,
and the answers to the reads to come. -/
structure Residue where
  crc : Word16
  cmd : List Byte
  frm : List Byte
  ack : List Byte
  res : Word32
  operr : OpErr
  ackflags : BitVec 3
  lastack : LastAck
  history : List Event
  rx : List RxResult

/-- `s` with other contents of these registers and logs. -/
def State.withResidue (s : State) (l : Residue) : State :=
  { s with crc := l.crc, cmd := l.cmd, frm := l.frm, ack := l.ack, res := l.res, operr := l.operr
           ackflags := l.ackflags, lastack := l.lastack, history := l.history, rx := l.rx }

theorem arrive_withResidue (s : State) (l : Residue) : (s.withResidue l).arrive = s.arrive.withResidue l := by
  have hhost : (s.withResidue l).host = s.host := rfl
  have hport : (s.withResidue l).port = s.port := rfl
  simp only [State.arrive, hhost, hport]
  split
  · rfl
  · split <;> rfl
  · rfl

/-- `f` moves the sequencer's registers and nothing else, without looking at the residue. -/
structure Steers (f : State → State) : Prop where
  frame : ∀ u, f u = { u with
    seq := (f u).seq, img := (f u).img, off := (f u).off, await := (f u).await, expect := (f u).expect
    busy := (f u).busy, done := (f u).done, aborted := (f u).aborted, cause := (f u).cause }
  blind : ∀ u l, f (u.withResidue l) = (f u).withResidue l

theorem steers_abort (c : Cause) : Steers fun u => u.abort c := ⟨fun _ => rfl, fun _ _ => rfl⟩

/-- `RxRead` comes out alike in `s` and `t`: the bursts may differ where a bad one is not fatal. -/
inductive ReadsAlike (R : State → State → Prop) (s t : State) : Prop where
  | silent (hs : s.rxRead = none) (ht : t.rxRead = none)
  | failed {u v : State} (hs : s.rxRead = some (.error, u)) (ht : t.rxRead = some (.error, v)) (related : R u v)
  | got {r r' : List Byte} {u v : State} (hs : s.rxRead = some (.burst r, u)) (ht : t.rxRead = some (.burst r', v))
      (verdict : r = r' ∨ s.cfg.ackFatal = false) (related : R u v)

/-- Related states differ in the residue at most, and stay related under everything that a step may do to the block. -/
structure Unseen (R : State → State → Prop) : Prop where
  residue {s t : State} : R s t → ∃ l, t = s.withResidue l
  arrived {s t : State} (port : Option RequestWord) (host : List HostInput) : R s t →
    R { s with port := port, host := host } { t with port := port, host := host }
  answered {s t : State} (e e' : OpErr) (v v' : Word32) : R s t →
    R { s with operr := e, res := v, port := none } { t with operr := e', res := v', port := none }
  built {s t : State} (crc : Word16) (cmd frm : List Byte) : R s t →
    R { s with crc := crc, cmd := cmd, frm := frm } { t with crc := crc, cmd := cmd, frm := frm }
  written {s t : State} (tx : List TxResult) (b : List Byte) (r : TxResult) : R s t →
    R { s with tx := tx, history := s.history ++ [.tx b r] } { t with tx := tx, history := t.history ++ [.tx b r] }
  steered {s t : State} {f : State → State} (hf : Steers f) : R s t → R (f s) (f t)
  reads {s t : State} : R s t → ReadsAlike R s t
  recorded {s t : State} (v v' : AckKind × Byte) (k : Byte) : R s t → R (s.record v k) (t.record v' k)
  reset {s t : State} (host : List HostInput) : R s t →
    R { s.applyReset with host := host } { t.applyReset with host := host }

namespace Unseen
variable {R : State → State → Prop} (hR : Unseen R) {s t : State}
include hR

/-- What does not look at the residue is the same of both. -/
theorem agree {α : Type} (h : R s t) (f : State → α) (hf : ∀ u l, f (u.withResidue l) = f u) : f t = f s := by
  obtain ⟨l, rfl⟩ := hR.residue h
  exact hf s l

theorem arrive (h : R s t) : R s.arrive t.arrive := by
  obtain ⟨l, rfl⟩ := hR.residue h
  rw [arrive_withResidue, arrive_frame]
  exact hR.arrived _ _ h

/-- The refusals of the port; a refusal may be recorded on one side only. -/
theorem refused (h : R s t) (e e' : OpErr) : R (s.refuse e) (t.refuse e') := hR.answered e e' s.res t.res h

/-- The transport takes a write alike. -/
theorem txWrite (h : R s t) (b : List Byte) : (s.txWrite b = none ∧ t.txWrite b = none) ∨
    ∃ r u v, s.txWrite b = some (r, u) ∧ t.txWrite b = some (r, v) ∧ R u v := by
  have htx : t.tx = s.tx := hR.agree h State.tx fun _ _ => rfl
  cases hs : s.tx with
  | nil => exact .inl ⟨txWrite_none.mpr hs, txWrite_none.mpr (htx.trans hs)⟩
  | cons r rest =>
    exact .inr ⟨r, _, _, txWrite_of_cons hs b, txWrite_of_cons (htx.trans hs) b, hR.written rest b r h⟩

variable (h : R s t)
include h

/-! #### Requests -/

theorem whenIdle {body body' : Result} (hbody : Simulates R body body') :
    Simulates R (s.whenIdle body) (t.whenIdle body') := by
  unfold State.whenIdle
  rw [hR.agree h State.isIdle fun _ _ => rfl]
  exact .ite hbody (.next (hR.refused h _ _))

/-- Outside the idle block a request reaches `RES` and `OPERR` at most. -/
theorem request_not_idle (hidle : s.isIdle = false) {i : Instr} (hi : isRequest i = true) :
    Simulates R (exec i s) (exec i t) := by
  intro u hu
  obtain ⟨v, hv, -⟩ := request_effect hi t
  have hidle' := (hR.agree h State.isIdle fun _ _ => rfl).trans hidle
  refine ⟨v, hv, ?_⟩
  rw [Machine.request_not_idle hi hidle hu, Machine.request_not_idle hi hidle' hv]
  exact hR.answered _ _ _ _ h

/-! #### What the sequencer's steps share -/

theorem whenSelected {i : Instr} {body body' : Result} (hbody : Simulates R body body') :
    Simulates R (s.whenSelected i body) (t.whenSelected i body') := by
  obtain ⟨l, rfl⟩ := hR.residue h
  intro u hu
  obtain ⟨hsel, hu⟩ := whenSelected_next hu
  rw [whenSelected_selected (s := s.withResidue l) hsel]
  exact hbody u hu

theorem transmit {ready ready' : State} (hready : R ready ready') (b : List Byte) {after : State → State}
    (hf : Steers after) : Simulates R (s.transmit ready b after) (t.transmit ready' b after) := by
  unfold State.transmit
  rcases hR.txWrite hready b with ⟨hs, ht⟩ | ⟨r, u, v, hs, ht, related⟩
  · rw [hs, ht]
    exact .next h
  · rw [hs, ht]
    cases r with
    | ok => exact .next (hR.steered hf related)
    | failed => exact .next (hR.steered (steers_abort _) related)

theorem sendFramed (c : List Byte) {after : State → State} (hf : Steers after) :
    Simulates R (s.sendFramed c after) (t.sendFramed c after) :=
  hR.transmit h (hR.built _ _ _ h) _ hf

theorem sendUnframed (c : List Byte) {after : State → State} (hf : Steers after) :
    Simulates R (s.sendUnframed c after) (t.sendUnframed c after) :=
  hR.transmit h (hR.built _ _ _ h) _ hf

theorem awaitAck (k : Byte) {after : State → State} (hf : Steers after) :
    Simulates R (s.awaitAck k after) (t.awaitAck k after) := by
  have hcfg := hR.agree h State.cfg fun _ _ => rfl
  unfold State.awaitAck
  cases hR.reads h with
  | silent hs ht =>
    rw [hs, ht]
    exact .next h
  | failed hs ht related =>
    rw [hs, ht]
    exact .next (hR.steered (steers_abort _) related)
  | @got r r' u v hs ht verdict related =>
    have hrecorded := hR.recorded (validate r k) (validate r' k) k related
    simp only [hs, ht, hcfg]
    rcases verdict with rfl | hfatal
    · exact .ite (.next (hR.steered (steers_abort _) hrecorded)) (.next (hR.steered hf hrecorded))
    · simp only [hfatal, Bool.false_eq_true, and_false, if_false]
      exact .next (hR.steered hf hrecorded)

theorem openTx (j : Pos) : Simulates R (s.openTx j) (t.openTx j) := by
  obtain ⟨l, rfl⟩ := hR.residue h
  cases hc : openCmd s.cfg j (s.sizeLo j) with
  | none =>
    rw [openTx_of_none hc]
    exact .fault
  | some c =>
    rw [openTx_of_some hc, openTx_of_some (s := s.withResidue l) hc]
    exact hR.sendFramed h c ⟨fun _ => rfl, fun _ _ => rfl⟩

theorem openAckTo (j : Pos) : Simulates R (s.openAckTo j) (t.openAckTo j) :=
  hR.awaitAck h ackOpen ⟨fun _ => rfl, fun _ _ => rfl⟩

/-! #### The steps -/

theorem sOpenTxNext : Simulates R (exec .sOpenTxNext s) (exec .sOpenTxNext t) := by
  refine hR.whenSelected h ?_
  rw [hR.agree h State.nextImg fun _ _ => rfl]
  cases s.nextImg with
  | none => exact .fault
  | some j => exact hR.openTx h j

theorem sOpenAckNext : Simulates R (exec .sOpenAckNext s) (exec .sOpenAckNext t) := by
  refine hR.whenSelected h ?_
  rw [hR.agree h State.nextImg fun _ _ => rfl]
  cases s.nextImg with
  | none => exact .fault
  | some j => exact hR.openAckTo h j

theorem sTrailerTx : Simulates R (exec .sTrailerTx s) (exec .sTrailerTx t) := by
  refine hR.whenSelected h ?_
  rw [hR.agree h (fun u => trailerCmd u.cfg u.img (u.sizeLo u.img)) fun _ _ => rfl]
  cases trailerCmd s.cfg s.img (s.sizeLo s.img) with
  | none => exact .fault
  | some c => exact hR.sendUnframed h c ⟨fun _ => rfl, fun _ _ => rfl⟩

theorem sChunk : Simulates R (exec .sChunk s) (exec .sChunk t) := by
  refine hR.whenSelected h ?_
  obtain ⟨l, rfl⟩ := hR.residue h
  exact .ite .fault (.ite (hR.transmit h h _ ⟨fun _ => rfl, fun _ _ => rfl⟩)
    (.ite .fault (hR.transmit h h _ ⟨fun _ => rfl, fun _ _ => rfl⟩)))

/-- Every step of the table. -/
theorem exec_step {i : Instr} (hi : isRequest i = false) : Simulates R (exec i s) (exec i t) := by
  cases i with
  | sHelloTx | sCloseTx =>
    obtain ⟨l, rfl⟩ := hR.residue h
    exact hR.whenSelected h (hR.sendFramed h _ ⟨fun _ => rfl, fun _ _ => rfl⟩)
  | sOpenTxFirst => exact hR.whenSelected h (hR.openTx h 0)
  | sOpenTxNext => exact hR.sOpenTxNext h
  | sOpenAckFirst => exact hR.whenSelected h (hR.openAckTo h 0)
  | sOpenAckNext => exact hR.sOpenAckNext h
  | sTrailerTx => exact hR.sTrailerTx h
  | sChunk => exact hR.sChunk h
  | sHelloAck | sDataAck => exact hR.whenSelected h (hR.awaitAck h _ ⟨fun _ => rfl, fun _ _ => rfl⟩)
  | sFinish =>
    exact hR.whenSelected h (.next (hR.steered (f := fun u => { u with seq := .done, done := true, busy := false })
      ⟨fun _ => rfl, fun _ _ => rfl⟩ h))
  | _ => cases hi

/-- The sequencer's turn: the same step is selected, or none. -/
theorem runSequencer : Simulates R s.runSequencer t.runSequencer := by
  unfold State.runSequencer
  rw [hR.agree h State.busy fun _ _ => rfl, hR.agree h State.selector fun _ _ => rfl]
  refine .ite ?_ (.next h)
  cases hi : decodeSelector s.selector with
  | ok i => exact hR.exec_step h (isRequest_of_decodeSelector hi)
  | error e => exact .fault

/-- What runs after the host's input, where every request answers related states as well. -/
theorem turn (hreq : ∀ i, isRequest i = true → Simulates R (exec i s) (exec i t)) : Simulates R s.turn t.turn := by
  unfold State.turn State.runRequest
  rw [hR.agree h State.port fun _ _ => rfl]
  cases s.port with
  | none => exact hR.runSequencer h
  | some w =>
    dsimp only
    cases hw : decodeRequest w with
    | ok i => exact hreq i (isRequest_of_decodeRequest hw)
    | error e => exact .next (hR.refused h _ _)

/-- A step, where the requests that may stand at the port answer related states as well. -/
theorem step (hreq : ∀ i, isRequest i = true → Simulates R (exec i s.arrive) (exec i t.arrive)) :
    Simulates R (Machine.step s) (Machine.step t) := by
  have harrive := hR.arrive h
  have hreset := hR.agree h State.resetNow fun _ _ => rfl
  cases hr : s.resetNow with
  | true =>
    rw [step_reset hr, step_reset (hreset.trans hr), hR.agree h State.host fun _ _ => rfl]
    exact .next (hR.reset _ h)
  | false =>
    rw [step_turn hr, step_turn (hreset.trans hr)]
    exact hR.turn harrive hreq

end Unseen

/-! ### What earlier operations left in the units (spec/70_reset_and_hazards.md R263) -/

/-- A read returns the first `ACK_BUF_LEN` bytes of what is delivered (spec/20_memory.md R58; log 6). -/
theorem rxRead_of_delivered {s : State} {d : List Byte} {rest : List RxResult} (h : s.rx = .burst d :: rest) :
    s.rxRead = some (.burst (d.take (ackBufLen s.cfg)), { s with
      rx := if d.drop (ackBufLen s.cfg) = [] then rest else .burst (d.drop (ackBufLen s.cfg)) :: rest
      ack := d.take (ackBufLen s.cfg)
      history := s.history ++ [.rx (.burst (d.take (ackBufLen s.cfg)))] }) := by
  simp only [State.rxRead, h]

theorem SameButLeftovers.rx {s t : State} (h : SameButLeftovers s t) : t.rx = s.rx := by rw [← h]

theorem SameButLeftovers.steer {s t : State} {f : State → State} (h : SameButLeftovers s t) (hf : Steers f) :
    SameButLeftovers (f s) (f t) := by
  have ht : s.withResidue ⟨t.crc, t.cmd, t.frm, t.ack, t.res, t.operr, t.ackflags, t.lastack, s.history, s.rx⟩ = t := h
  rw [← ht, hf.blind, hf.frame s]
  rfl

/-- The same answers are read, whatever stands in the buffers. -/
theorem SameButLeftovers.readsAlike {s t : State} (h : SameButLeftovers s t) : ReadsAlike SameButLeftovers s t := by
  cases hs : s.rx with
  | nil => exact .silent (rxRead_none.mpr hs) (rxRead_none.mpr (h.rx.trans hs))
  | cons r rest =>
    rw [← h]
    cases r with
    | error => exact .failed (rxRead_of_error hs) (rxRead_of_error hs) rfl
    | burst d => exact .got (rxRead_of_delivered hs) (rxRead_of_delivered hs) (.inl rfl) rfl

theorem unseen_leftovers : Unseen SameButLeftovers where
  residue {s t} h := ⟨⟨t.crc, t.cmd, t.frm, t.ack, t.res, t.operr, t.ackflags, t.lastack, s.history, s.rx⟩, h.symm⟩
  arrived _ _ h := by rw [← h]; rfl
  answered _ _ _ _ h := by rw [← h]; rfl
  built _ _ _ h := by rw [← h]; rfl
  written _ _ _ h := by rw [← h]; rfl
  steered hf h := h.steer hf
  reads h := h.readsAlike
  recorded _ _ _ h := by rw [← h]; rfl
  reset _ h := by rw [← h]; rfl

end Sys2Proof.Machine

section
open Sys2Proof Sys2Proof.Machine

/-- Settles O59: outside the idle block a request reaches `RES` and `OPERR` only, and no step of the sequencer sees the
leftovers (`unseen_leftovers`). -/
theorem leftoversDoNotDisturbTheRun : Obligations.LeftoversDoNotDisturbTheRun := by
  intro s t s' hidle h
  refine unseen_leftovers.step h (fun i hi => ?_) s'
  exact unseen_leftovers.request_not_idle (unseen_leftovers.arrive h) ((arrive_isIdle s).trans hidle) hi

end

namespace Sys2Proof.Machine

/-! ### What the device answers (spec/70_reset_and_hazards.md R269) -/

/-- `s` and `t` differ in the answers only, and no answer is fatal. -/
structure HarmlessAnswers (s t : State) : Prop where
  notFatal : s.cfg.ackFatal = false
  same : SameButAnswers s t

namespace HarmlessAnswers
variable {s t : State} (h : HarmlessAnswers s t)
include h

theorem exists_eq : ∃ ack res operr flags last history rx,
    t = { s with ack := ack, res := res, operr := operr, ackflags := flags, lastack := last
                 history := history, rx := rx } ∧
      List.Forall₂ (SameShape (ackBufLen s.cfg)) s.rx rx ∧ txLog s = txLog { s with history := history } :=
  ⟨t.ack, t.res, t.operr, t.ackflags, t.lastack, t.history, t.rx, h.same.block.symm, h.same.answers, h.same.log⟩

theorem steer {f : State → State} (hf : Steers f) : HarmlessAnswers (f s) (f t) := by
  obtain ⟨ack, res, operr, flags, last, history, rx, rfl, hrx, hlog⟩ := h.exists_eq
  have ht : f (s.withResidue ⟨s.crc, s.cmd, s.frm, ack, res, operr, flags, last, history, rx⟩) = _ := hf.blind s _
  have hframe := hf.frame s
  refine ⟨by rw [hframe]; exact h.notFatal, ?_⟩
  change SameButAnswers (f s) (f (s.withResidue ⟨s.crc, s.cmd, s.frm, ack, res, operr, flags, last, history, rx⟩))
  rw [ht, hframe]
  exact ⟨rfl, hlog, hrx⟩

/-- An accepted or a failed write is logged alike. -/
theorem write (tx : List TxResult) (b : List Byte) (r : TxResult) :
    HarmlessAnswers { s with tx := tx, history := s.history ++ [.tx b r] }
      { t with tx := tx, history := t.history ++ [.tx b r] } := by
  refine ⟨h.notFatal, ?_, ?_, h.same.answers⟩
  · rw [← h.same.block]
  · calc txLog { s with tx := tx, history := s.history ++ [.tx b r] }
        = txLog s ++ [(b, r)] := txLog_of_history_tx rfl
      _ = txLog t ++ [(b, r)] := by rw [h.same.log]
      _ = txLog { t with tx := tx, history := t.history ++ [.tx b r] } := (txLog_of_history_tx rfl).symm

/-- Whatever is read, the TX entries of the history stay the same. -/
theorem read {xs ys : List RxResult} (hrx : List.Forall₂ (SameShape (ackBufLen s.cfg)) xs ys) (ack ack' : List Byte)
    (r r' : RxResult) :
    HarmlessAnswers { s with rx := xs, ack := ack, history := s.history ++ [.rx r] }
      { t with rx := ys, ack := ack', history := t.history ++ [.rx r'] } := by
  refine ⟨h.notFatal, ?_, ?_, hrx⟩
  · rw [← h.same.block]
  · calc txLog { s with rx := xs, ack := ack, history := s.history ++ [.rx r] }
        = txLog s := txLog_of_history_rx rfl
      _ = txLog t := h.same.log
      _ = txLog { t with rx := ys, ack := ack', history := t.history ++ [.rx r'] } := (txLog_of_history_rx rfl).symm

theorem readsAlike : ReadsAlike HarmlessAnswers s t := by
  have hcfg : t.cfg = s.cfg := by rw [← h.same.block]
  have hanswers := h.same.answers
  cases hs : s.rx <;> cases ht : t.rx <;> simp only [hs, ht] at hanswers
  case nil.nil => exact .silent (rxRead_none.mpr hs) (rxRead_none.mpr ht)
  case nil.cons | cons.nil => cases hanswers
  case cons.cons x xs y ys =>
    obtain ⟨hshape, hrest⟩ := List.forall₂_cons.mp hanswers
    cases x <;> cases y
    case error.error =>
      exact .failed (rxRead_of_error hs) (rxRead_of_error ht) (h.read hrest s.ack t.ack _ _)
    case burst.burst a b =>
      obtain ⟨ha, hb⟩ := hshape
      exact .got (rxRead_of_burst hs ha) (rxRead_of_burst ht (hcfg ▸ hb)) (.inr h.notFatal) (h.read hrest _ _ _ _)
    case error.burst | burst.error => cases hshape

end HarmlessAnswers

theorem unseen_answers : Unseen HarmlessAnswers where
  residue {s t} h := ⟨⟨s.crc, s.cmd, s.frm, t.ack, t.res, t.operr, t.ackflags, t.lastack, t.history, t.rx⟩,
    h.same.block.symm⟩
  arrived _ _ h := ⟨h.notFatal, by rw [← h.same.block], h.same.log, h.same.answers⟩
  answered _ _ _ _ h := ⟨h.notFatal, by rw [← h.same.block], h.same.log, h.same.answers⟩
  built _ _ _ h := ⟨h.notFatal, by rw [← h.same.block], h.same.log, h.same.answers⟩
  written tx b r h := h.write tx b r
  steered hf h := h.steer hf
  reads h := h.readsAlike
  recorded _ _ _ h := ⟨h.notFatal, by rw [← h.same.block]; rfl, h.same.log, h.same.answers⟩
  reset _ h := ⟨h.notFatal, by rw [← h.same.block]; rfl, rfl, h.same.answers⟩

/-! #### Requests -/

theorem HarmlessAnswers.txSend {s t : State} (h : HarmlessAnswers s t) :
    Simulates HarmlessAnswers (exec .txSend s) (exec .txSend t) := by
  refine unseen_answers.whenIdle h ?_
  have hfrm : t.frm = s.frm := by rw [← h.same.block]
  rw [hfrm]
  rcases unseen_answers.txWrite h s.frm with ⟨hs, ht⟩ | ⟨r, u, v, hs, ht, related⟩
  · rw [hs, ht]
    exact .next h
  · rw [hs, ht]
    cases r with
    | ok => exact .next (unseen_answers.answered _ _ _ _ related)
    | failed => exact .next (unseen_answers.refused related _ _)

theorem HarmlessAnswers.ackRecv {s t : State} (h : HarmlessAnswers s t) :
    Simulates HarmlessAnswers (exec .ackRecv s) (exec .ackRecv t) := by
  refine unseen_answers.whenIdle h ?_
  cases h.readsAlike with
  | silent hs ht =>
    rw [hs, ht]
    exact .next h
  | failed hs ht related =>
    rw [hs, ht]
    exact .next (unseen_answers.refused related _ _)
  | got hs ht _ related =>
    rw [hs, ht]
    exact .next (unseen_answers.answered _ _ _ _ related)

theorem HarmlessAnswers.takeDecoded {s t : State} (h : HarmlessAnswers s t) (r : Except OpErr (List Byte)) :
    HarmlessAnswers (s.takeDecoded r) (t.takeDecoded r) := by
  obtain ⟨ack, res, operr, flags, last, history, rx, rfl, hrx, hlog⟩ := h.exists_eq
  cases r with
  | error e => exact unseen_answers.refused h e e
  | ok b =>
    simp only [State.takeDecoded]
    split <;> exact ⟨h.notFatal, rfl, hlog, hrx⟩

/-- Every request: the registers that it reads are the same on both sides, but for those that record the answers, and what
it computes from these it puts into them again. -/
theorem HarmlessAnswers.request {s t : State} (h : HarmlessAnswers s t) {i : Instr} (hi : isRequest i = true) :
    Simulates HarmlessAnswers (exec i s) (exec i t) := by
  obtain ⟨ack, res, operr, flags, last, history, rx, rfl, hrx, hlog⟩ := h.exists_eq
  have hfatal := h.notFatal
  cases i with
  | crcInit | crcLoad | crcStep | crcFinal | frmEsc | frmEnc | frmRaw | frmClr | cmdClr | cmdHello | cmdClose | ackClr
  | ackCheck => exact unseen_answers.whenIdle h (.next ⟨hfatal, rfl, hlog, hrx⟩)
  | crcBuf | frmPut | cmdPut | cmdPut32 | cmdInc2 | cmdCrcpatch | seqRun =>
    exact unseen_answers.whenIdle h (.ite (.next ⟨hfatal, rfl, hlog, hrx⟩) (.next ⟨hfatal, rfl, hlog, hrx⟩))
  | ackPut =>
    refine unseen_answers.whenIdle h ?_
    split <;> split <;> exact .next ⟨hfatal, rfl, hlog, hrx⟩
  | frmUnesc | frmDec =>
    exact unseen_answers.whenIdle h (.next (h.takeDecoded _))
  | cmdLoad | cmdOpen | cmdTrailer =>
    refine unseen_answers.whenIdle h ?_
    dsimp only
    split <;> exact .next ⟨hfatal, rfl, hlog, hrx⟩
  | txSend => exact h.txSend
  | ackRecv => exact h.ackRecv
  | regWr r v =>
    refine unseen_answers.whenIdle h ?_
    rcases regOf r with _ | g
    · exact .next (unseen_answers.refused h _ _)
    · cases g <;> exact .next ⟨hfatal, rfl, hlog, hrx⟩
  | regRd r =>
    simp only [exec, execRegRd]
    cases regOf r <;> exact .next ⟨hfatal, rfl, hlog, hrx⟩
  | bufRd space index =>
    simp only [exec, execBufRd]
    split <;> split <;> exact .next ⟨hfatal, rfl, hlog, hrx⟩
  | _ => cases hi

end Sys2Proof.Machine

section
open Sys2Proof Sys2Proof.Machine

/-- Settles O58: what a step sends is computed from nothing that an answer reaches (`unseen_answers`,
`HarmlessAnswers.request`). -/
theorem answersDoNotChangeTheWire : Obligations.AnswersDoNotChangeTheWire := by
  intro s t s' hfatal h hstep
  have hrelated : HarmlessAnswers s t := ⟨hfatal, h⟩
  obtain ⟨t', ht', hsame⟩ := unseen_answers.step hrelated (fun _ => (unseen_answers.arrive hrelated).request) s' hstep
  exact ⟨t', ht', hsame.same⟩

end
